-- ==== Sys2Proof/Word.lean ====
section
/-! DEFINITION. The word types of the block: the octet and the counted widths that the spec names in
00_scope.md R21 and that are not a `BitVec` written where they stand. Only types stand here: every
helper over them is in a file directly under Machine/. -/

namespace Sys2Proof

/-- `UInt8` (00_scope.md R21): one octet, bit 0 its least significant bit (R20). -/
abbrev Byte := BitVec 8

/-- `UInt15` (10_state.md R45, R46): a sequence number, so that addition and subtraction are modulo 32768. -/
abbrev SeqNo := BitVec 15

/-- `UInt24` (10_state.md R41): an information object address. -/
abbrev Ioa := BitVec 24

end Sys2Proof
end

