-- ==== Sys2Proof/Config.lean ====
section
/-! DEFINITION. The configuration record CONFIG (10_state.md R32, 00_scope.md R6 to R18), the sizes of the
three buffers (20_memory.md R70) and the spec's defaults. The parameters are state that the RESET command
writes; nothing here is fixed for all machines but the buffer sizes. The model has no free value: the spec
states every result of every command. -/

namespace Sys2Proof

/-- LINK_MODE (00_scope.md R14). -/
inductive LinkMode where
  | unbalanced
  | balanced
deriving DecidableEq, Repr

/-- APCI_ROLE (00_scope.md R15). -/
inductive ApciRole where
  | controlled
  | controlling
deriving DecidableEq, Repr

/-- FCS_MODE (00_scope.md R17): SUM8 is the only value the spec defines. -/
inductive FcsMode where
  | sum8
deriving DecidableEq, Repr

/-- One entry of PRIVATE_TYPES (00_scope.md R18): a type identifier, its payload size in octets and whether
the builder accepts it with SQ = 1. -/
structure PrivateType where
  typeId : Byte
  size   : Byte
  seq    : Bool
deriving DecidableEq, Repr

/-- CONFIG (10_state.md R32), in the order of that rule. -/
structure Config where
  cotLen       : Nat
  caLen        : Nat
  ioaLen       : Nat
  typeIdLen    : Nat
  maxAsduLen   : Nat
  k            : Nat
  w            : Nat
  linkAddrLen  : Nat
  linkMode     : LinkMode
  apciRole     : ApciRole
  strictLength : Bool
  fcsMode      : FcsMode
  privateTypes : List PrivateType
deriving DecidableEq, Repr

/-- `HDR_LEN = 2 + COT_LEN + CA_LEN` (30_encoding.md R104). -/
def Config.hdrLen (c : Config) : Nat := 2 + c.cotLen + c.caLen

/-- The default of K (00_scope.md R11). -/
def Config.defaultK : Nat := 12

/-- The default of W (00_scope.md R12). -/
def Config.defaultW : Nat := 8

/-- The default of MAX_ASDU_LEN (00_scope.md R10). -/
def Config.defaultMaxAsduLen : Nat := 249

/-- The three buffers (20_memory.md R70). -/
inductive Buf where
  | rxbuf
  | txbuf
  | abuf
deriving DecidableEq, Repr

/-- The octets of each buffer (20_memory.md R70): addresses 0 to size - 1 exist, and no others. -/
def Buf.size : Buf → Nat
  | .rxbuf => 261
  | .txbuf => 261
  | .abuf  => 255

end Sys2Proof
end

