-- ==== Sys2Proof/Syntax.lean ====
section
/-! DEFINITION. The instructions: one constructor of `Instr` for each row of spec/opcode_table.json, and the
types of their operands. A command row (30_encoding.md R101) takes the operands of 30_encoding.md R103. A
row of the other formats takes the fields of its own rule; what it means as an instruction is log entry 2. -/

namespace Sys2Proof

/-! ## Information elements (41_primitive_codecs.md)

Each is a record of bit fields, reserved bits included (R150), written here from bit 0 of octet 0 up. A
field of one bit is a `BitVec 1`. A signed field holds its two's complement bits. -/

/-- SIQ, single-point information with quality, 1 octet (41_primitive_codecs.md R151). -/
structure SIQ where
  spi : BitVec 1
  res : BitVec 3
  bl  : BitVec 1
  sb  : BitVec 1
  nt  : BitVec 1
  iv  : BitVec 1
deriving DecidableEq, Repr

/-- DIQ, double-point information with quality, 1 octet (41_primitive_codecs.md R152). -/
structure DIQ where
  dpi : BitVec 2
  res : BitVec 2
  bl  : BitVec 1
  sb  : BitVec 1
  nt  : BitVec 1
  iv  : BitVec 1
deriving DecidableEq, Repr

/-- QDS, quality descriptor, 1 octet (41_primitive_codecs.md R153). -/
structure QDS where
  ov  : BitVec 1
  res : BitVec 3
  bl  : BitVec 1
  sb  : BitVec 1
  nt  : BitVec 1
  iv  : BitVec 1
deriving DecidableEq, Repr

/-- VTI, value with transient-state indication, 1 octet (41_primitive_codecs.md R154). -/
structure VTI where
  val : BitVec 7
  t   : BitVec 1
deriving DecidableEq, Repr

/-- NVA, normalized value, 2 octets (41_primitive_codecs.md R155). -/
structure NVA where
  raw : BitVec 16
deriving DecidableEq, Repr

/-- SVA, scaled value, 2 octets (41_primitive_codecs.md R156). -/
structure SVA where
  val : BitVec 16
deriving DecidableEq, Repr

/-- R32, short floating-point value, the 32 bits of a binary32, 4 octets (41_primitive_codecs.md R157). -/
structure R32 where
  bits : BitVec 32
deriving DecidableEq, Repr

/-- BSI, binary state information, 4 octets (41_primitive_codecs.md R158). -/
structure BSI where
  bits : BitVec 32
deriving DecidableEq, Repr

/-- BCR, binary counter reading, 5 octets (41_primitive_codecs.md R159). -/
structure BCR where
  counter : BitVec 32
  sqn     : BitVec 5
  cy      : BitVec 1
  ca      : BitVec 1
  iv      : BitVec 1
deriving DecidableEq, Repr

/-- SEP, single event of protection equipment, 1 octet (41_primitive_codecs.md R160). -/
structure SEP where
  es  : BitVec 2
  res : BitVec 1
  ei  : BitVec 1
  bl  : BitVec 1
  sb  : BitVec 1
  nt  : BitVec 1
  iv  : BitVec 1
deriving DecidableEq, Repr

/-- SPE, start events of protection equipment, 1 octet (41_primitive_codecs.md R161). -/
structure SPE where
  gs  : BitVec 1
  sl1 : BitVec 1
  sl2 : BitVec 1
  sl3 : BitVec 1
  sie : BitVec 1
  srd : BitVec 1
  res : BitVec 2
deriving DecidableEq, Repr

/-- OCI, output circuit information, 1 octet (41_primitive_codecs.md R162). -/
structure OCI where
  gc  : BitVec 1
  cl1 : BitVec 1
  cl2 : BitVec 1
  cl3 : BitVec 1
  res : BitVec 4
deriving DecidableEq, Repr

/-- QDP, quality descriptor for events of protection equipment, 1 octet (41_primitive_codecs.md R163). -/
structure QDP where
  res : BitVec 3
  ei  : BitVec 1
  bl  : BitVec 1
  sb  : BitVec 1
  nt  : BitVec 1
  iv  : BitVec 1
deriving DecidableEq, Repr

/-- SCD, status and status change detection, 4 octets (41_primitive_codecs.md R164). -/
structure SCD where
  st : BitVec 16
  cd : BitVec 16
deriving DecidableEq, Repr

/-- CP16Time2a, elapsed time or a duration in milliseconds, 2 octets (41_primitive_codecs.md R165). -/
structure CP16Time2a where
  ms : BitVec 16
deriving DecidableEq, Repr

/-- CP24Time2a, 24-bit time of day, 3 octets (41_primitive_codecs.md R166). -/
structure CP24Time2a where
  ms   : BitVec 16
  min  : BitVec 6
  res1 : BitVec 1
  iv   : BitVec 1
deriving DecidableEq, Repr

/-- CP56Time2a, 56-bit full timestamp, 7 octets (41_primitive_codecs.md R167). -/
structure CP56Time2a where
  ms   : BitVec 16
  min  : BitVec 6
  res1 : BitVec 1
  iv   : BitVec 1
  hour : BitVec 5
  res2 : BitVec 2
  su   : BitVec 1
  day  : BitVec 5
  dow  : BitVec 3
  mon  : BitVec 4
  res3 : BitVec 4
  year : BitVec 7
  res4 : BitVec 1
deriving DecidableEq, Repr

/-- SCO, single command, 1 octet (41_primitive_codecs.md R168). -/
structure SCO where
  scs : BitVec 1
  res : BitVec 1
  qu  : BitVec 5
  se  : BitVec 1
deriving DecidableEq, Repr

/-- DCO, double command, 1 octet (41_primitive_codecs.md R169). -/
structure DCO where
  dcs : BitVec 2
  qu  : BitVec 5
  se  : BitVec 1
deriving DecidableEq, Repr

/-- RCO, regulating step command, 1 octet (41_primitive_codecs.md R170). -/
structure RCO where
  rcs : BitVec 2
  qu  : BitVec 5
  se  : BitVec 1
deriving DecidableEq, Repr

/-- QOS, qualifier of set-point command, 1 octet (41_primitive_codecs.md R171). -/
structure QOS where
  ql : BitVec 7
  se : BitVec 1
deriving DecidableEq, Repr

/-- QOI, qualifier of interrogation, 1 octet (41_primitive_codecs.md R172). -/
structure QOI where
  v : BitVec 8
deriving DecidableEq, Repr

/-- QCC, qualifier of counter interrogation command, 1 octet (41_primitive_codecs.md R173). -/
structure QCC where
  rqt : BitVec 6
  frz : BitVec 2
deriving DecidableEq, Repr

/-- QRP, qualifier of reset process command, 1 octet (41_primitive_codecs.md R174). -/
structure QRP where
  v : BitVec 8
deriving DecidableEq, Repr

/-- COI, cause of initialisation, 1 octet (41_primitive_codecs.md R175). -/
structure COI where
  cause : BitVec 7
  bi    : BitVec 1
deriving DecidableEq, Repr

/-- QPM, qualifier of parameter of measured values, 1 octet (41_primitive_codecs.md R176). -/
structure QPM where
  kpa : BitVec 6
  lpc : BitVec 1
  pop : BitVec 1
deriving DecidableEq, Repr

/-- QPA, qualifier of parameter activation, 1 octet (41_primitive_codecs.md R177). -/
structure QPA where
  v : BitVec 8
deriving DecidableEq, Repr

/-- FBP, fixed test bit pattern, 2 octets (41_primitive_codecs.md R178). -/
structure FBP where
  v : BitVec 16
deriving DecidableEq, Repr

/-- TSC, test sequence counter, 2 octets (41_primitive_codecs.md R179). -/
structure TSC where
  v : BitVec 16
deriving DecidableEq, Repr

/-- NOF, name of file, 2 octets (41_primitive_codecs.md R180). -/
structure NOF where
  v : BitVec 16
deriving DecidableEq, Repr

/-- NOS, name of section, 1 octet (41_primitive_codecs.md R181). -/
structure NOS where
  v : BitVec 8
deriving DecidableEq, Repr

/-- LOF, length of file or section, 3 octets (41_primitive_codecs.md R182). -/
structure LOF where
  v : BitVec 24
deriving DecidableEq, Repr

/-- LOS, length of segment, 1 octet (41_primitive_codecs.md R183). -/
structure LOS where
  v : BitVec 8
deriving DecidableEq, Repr

/-- FRQ, file ready qualifier, 1 octet (41_primitive_codecs.md R184). -/
structure FRQ where
  ui7 : BitVec 7
  bs  : BitVec 1
deriving DecidableEq, Repr

/-- SRQ, section ready qualifier, 1 octet (41_primitive_codecs.md R185). -/
structure SRQ where
  ui7 : BitVec 7
  bs  : BitVec 1
deriving DecidableEq, Repr

/-- SCQ, select and call qualifier, 1 octet (41_primitive_codecs.md R186). -/
structure SCQ where
  act : BitVec 4
  err : BitVec 4
deriving DecidableEq, Repr

/-- LSQ, last section or segment qualifier, 1 octet (41_primitive_codecs.md R187). -/
structure LSQ where
  v : BitVec 8
deriving DecidableEq, Repr

/-- CHS, checksum, 1 octet (41_primitive_codecs.md R188). -/
structure CHS where
  v : BitVec 8
deriving DecidableEq, Repr

/-- AFQ, acknowledge file or section qualifier, 1 octet (41_primitive_codecs.md R189). -/
structure AFQ where
  ack : BitVec 4
  err : BitVec 4
deriving DecidableEq, Repr

/-- SOF, status of file, 1 octet (41_primitive_codecs.md R190). `forDir` is the FOR bit. -/
structure SOF where
  status : BitVec 5
  lfd    : BitVec 1
  forDir : BitVec 1
  fa     : BitVec 1
deriving DecidableEq, Repr

/-! ## Information objects (42_io_monitor.md, 43_io_control_file.md) -/

/-- The 67 type identifiers of the standard table (42_io_monitor.md R220). -/
inductive TypeId where
  | mSpNa1  -- 1, M_SP_NA_1: single-point information (R221)
  | mSpTa1  -- 2, M_SP_TA_1: single-point information with CP24Time2a (R222)
  | mDpNa1  -- 3, M_DP_NA_1: double-point information (R223)
  | mDpTa1  -- 4, M_DP_TA_1: double-point information with CP24Time2a (R224)
  | mStNa1  -- 5, M_ST_NA_1: step position information (R225)
  | mStTa1  -- 6, M_ST_TA_1: step position information with CP24Time2a (R226)
  | mBoNa1  -- 7, M_BO_NA_1: bitstring of 32 bits (R227)
  | mBoTa1  -- 8, M_BO_TA_1: bitstring of 32 bits with CP24Time2a (R228)
  | mMeNa1  -- 9, M_ME_NA_1: measured value, normalized value (R229)
  | mMeTa1  -- 10, M_ME_TA_1: measured value, normalized value with CP24Time2a (R230)
  | mMeNb1  -- 11, M_ME_NB_1: measured value, scaled value (R231)
  | mMeTb1  -- 12, M_ME_TB_1: measured value, scaled value with CP24Time2a (R232)
  | mMeNc1  -- 13, M_ME_NC_1: measured value, short floating point (R233)
  | mMeTc1  -- 14, M_ME_TC_1: measured value, short floating point with CP24Time2a (R234)
  | mItNa1  -- 15, M_IT_NA_1: integrated totals (R235)
  | mItTa1  -- 16, M_IT_TA_1: integrated totals with CP24Time2a (R236)
  | mEpTa1  -- 17, M_EP_TA_1: event of protection equipment with CP24Time2a (R237)
  | mEpTb1  -- 18, M_EP_TB_1: packed start events of protection equipment with CP24Time2a (R238)
  | mEpTc1  -- 19, M_EP_TC_1: packed output circuit information of protection equipment with CP24Time2a (R239)
  | mPsNa1  -- 20, M_PS_NA_1: packed single-point information with status change detection (R240)
  | mMeNd1  -- 21, M_ME_ND_1: measured value, normalized value without quality descriptor (R241)
  | mSpTb1  -- 30, M_SP_TB_1: single-point information with CP56Time2a (R242)
  | mDpTb1  -- 31, M_DP_TB_1: double-point information with CP56Time2a (R243)
  | mStTb1  -- 32, M_ST_TB_1: step position information with CP56Time2a (R244)
  | mBoTb1  -- 33, M_BO_TB_1: bitstring of 32 bits with CP56Time2a (R245)
  | mMeTd1  -- 34, M_ME_TD_1: measured value, normalized value with CP56Time2a (R246)
  | mMeTe1  -- 35, M_ME_TE_1: measured value, scaled value with CP56Time2a (R247)
  | mMeTf1  -- 36, M_ME_TF_1: measured value, short floating point with CP56Time2a (R248)
  | mItTb1  -- 37, M_IT_TB_1: integrated totals with CP56Time2a (R249)
  | mEpTd1  -- 38, M_EP_TD_1: event of protection equipment with CP56Time2a (R250)
  | mEpTe1  -- 39, M_EP_TE_1: packed start events of protection equipment with CP56Time2a (R251)
  | mEpTf1  -- 40, M_EP_TF_1: packed output circuit information of protection equipment with CP56Time2a (R252)
  | cScNa1  -- 45, C_SC_NA_1: single command (R270)
  | cDcNa1  -- 46, C_DC_NA_1: double command (R271)
  | cRcNa1  -- 47, C_RC_NA_1: regulating step command (R272)
  | cSeNa1  -- 48, C_SE_NA_1: set-point command, normalized value (R273)
  | cSeNb1  -- 49, C_SE_NB_1: set-point command, scaled value (R274)
  | cSeNc1  -- 50, C_SE_NC_1: set-point command, short floating point (R275)
  | cBoNa1  -- 51, C_BO_NA_1: bitstring of 32 bits command (R276)
  | cScTa1  -- 58, C_SC_TA_1: single command with CP56Time2a (R277)
  | cDcTa1  -- 59, C_DC_TA_1: double command with CP56Time2a (R278)
  | cRcTa1  -- 60, C_RC_TA_1: regulating step command with CP56Time2a (R279)
  | cSeTa1  -- 61, C_SE_TA_1: set-point command, normalized value with CP56Time2a (R280)
  | cSeTb1  -- 62, C_SE_TB_1: set-point command, scaled value with CP56Time2a (R281)
  | cSeTc1  -- 63, C_SE_TC_1: set-point command, short floating point with CP56Time2a (R282)
  | cBoTa1  -- 64, C_BO_TA_1: bitstring of 32 bits command with CP56Time2a (R283)
  | mEiNa1  -- 70, M_EI_NA_1: end of initialisation (R284)
  | cIcNa1  -- 100, C_IC_NA_1: interrogation command (R285)
  | cCiNa1  -- 101, C_CI_NA_1: counter interrogation command (R286)
  | cRdNa1  -- 102, C_RD_NA_1: read command (R287)
  | cCsNa1  -- 103, C_CS_NA_1: clock synchronisation command (R288)
  | cTsNa1  -- 104, C_TS_NA_1: test command (R289)
  | cRpNa1  -- 105, C_RP_NA_1: reset process command (R290)
  | cCdNa1  -- 106, C_CD_NA_1: delay acquisition command (R291)
  | cTsTa1  -- 107, C_TS_TA_1: test command with CP56Time2a (R292)
  | pMeNa1  -- 110, P_ME_NA_1: parameter of measured value, normalized value (R293)
  | pMeNb1  -- 111, P_ME_NB_1: parameter of measured value, scaled value (R294)
  | pMeNc1  -- 112, P_ME_NC_1: parameter of measured value, short floating point (R295)
  | pAcNa1  -- 113, P_AC_NA_1: parameter activation (R296)
  | fFrNa1  -- 120, F_FR_NA_1: file ready (R297)
  | fSrNa1  -- 121, F_SR_NA_1: section ready (R298)
  | fScNa1  -- 122, F_SC_NA_1: call directory, select file, call file, call section (R299)
  | fLsNa1  -- 123, F_LS_NA_1: last section, last segment (R300)
  | fAfNa1  -- 124, F_AF_NA_1: ack file, ack section (R301)
  | fSgNa1  -- 125, F_SG_NA_1: segment (R302)
  | fDrTa1  -- 126, F_DR_TA_1: directory (R303)
  | fScNb1  -- 127, F_SC_NB_1: query log, request archive file (R304)
deriving DecidableEq, Repr

/-- The body of an information object (10_state.md R41): one variant per standard type, with the fields of its
rule, and `raw` for a type of PRIVATE_TYPES. -/
inductive Body where
  | mSpNa1 (siq : SIQ)  -- R221
  | mSpTa1 (siq : SIQ) (time : CP24Time2a)  -- R222
  | mDpNa1 (diq : DIQ)  -- R223
  | mDpTa1 (diq : DIQ) (time : CP24Time2a)  -- R224
  | mStNa1 (vti : VTI) (qds : QDS)  -- R225
  | mStTa1 (vti : VTI) (qds : QDS) (time : CP24Time2a)  -- R226
  | mBoNa1 (bsi : BSI) (qds : QDS)  -- R227
  | mBoTa1 (bsi : BSI) (qds : QDS) (time : CP24Time2a)  -- R228
  | mMeNa1 (nva : NVA) (qds : QDS)  -- R229
  | mMeTa1 (nva : NVA) (qds : QDS) (time : CP24Time2a)  -- R230
  | mMeNb1 (sva : SVA) (qds : QDS)  -- R231
  | mMeTb1 (sva : SVA) (qds : QDS) (time : CP24Time2a)  -- R232
  | mMeNc1 (r32 : R32) (qds : QDS)  -- R233
  | mMeTc1 (r32 : R32) (qds : QDS) (time : CP24Time2a)  -- R234
  | mItNa1 (bcr : BCR)  -- R235
  | mItTa1 (bcr : BCR) (time : CP24Time2a)  -- R236
  | mEpTa1 (sep : SEP) (elapsed : CP16Time2a) (time : CP24Time2a)  -- R237
  | mEpTb1 (spe : SPE) (qdp : QDP) (duration : CP16Time2a) (time : CP24Time2a)  -- R238
  | mEpTc1 (oci : OCI) (qdp : QDP) (optime : CP16Time2a) (time : CP24Time2a)  -- R239
  | mPsNa1 (scd : SCD) (qds : QDS)  -- R240
  | mMeNd1 (nva : NVA)  -- R241
  | mSpTb1 (siq : SIQ) (time : CP56Time2a)  -- R242
  | mDpTb1 (diq : DIQ) (time : CP56Time2a)  -- R243
  | mStTb1 (vti : VTI) (qds : QDS) (time : CP56Time2a)  -- R244
  | mBoTb1 (bsi : BSI) (qds : QDS) (time : CP56Time2a)  -- R245
  | mMeTd1 (nva : NVA) (qds : QDS) (time : CP56Time2a)  -- R246
  | mMeTe1 (sva : SVA) (qds : QDS) (time : CP56Time2a)  -- R247
  | mMeTf1 (r32 : R32) (qds : QDS) (time : CP56Time2a)  -- R248
  | mItTb1 (bcr : BCR) (time : CP56Time2a)  -- R249
  | mEpTd1 (sep : SEP) (elapsed : CP16Time2a) (time : CP56Time2a)  -- R250
  | mEpTe1 (spe : SPE) (qdp : QDP) (duration : CP16Time2a) (time : CP56Time2a)  -- R251
  | mEpTf1 (oci : OCI) (qdp : QDP) (optime : CP16Time2a) (time : CP56Time2a)  -- R252
  | cScNa1 (sco : SCO)  -- R270
  | cDcNa1 (dco : DCO)  -- R271
  | cRcNa1 (rco : RCO)  -- R272
  | cSeNa1 (nva : NVA) (qos : QOS)  -- R273
  | cSeNb1 (sva : SVA) (qos : QOS)  -- R274
  | cSeNc1 (r32 : R32) (qos : QOS)  -- R275
  | cBoNa1 (bsi : BSI)  -- R276
  | cScTa1 (sco : SCO) (time : CP56Time2a)  -- R277
  | cDcTa1 (dco : DCO) (time : CP56Time2a)  -- R278
  | cRcTa1 (rco : RCO) (time : CP56Time2a)  -- R279
  | cSeTa1 (nva : NVA) (qos : QOS) (time : CP56Time2a)  -- R280
  | cSeTb1 (sva : SVA) (qos : QOS) (time : CP56Time2a)  -- R281
  | cSeTc1 (r32 : R32) (qos : QOS) (time : CP56Time2a)  -- R282
  | cBoTa1 (bsi : BSI) (time : CP56Time2a)  -- R283
  | mEiNa1 (coi : COI)  -- R284
  | cIcNa1 (qoi : QOI)  -- R285
  | cCiNa1 (qcc : QCC)  -- R286
  | cRdNa1  -- R287
  | cCsNa1 (time : CP56Time2a)  -- R288
  | cTsNa1 (fbp : FBP)  -- R289
  | cRpNa1 (qrp : QRP)  -- R290
  | cCdNa1 (delay : CP16Time2a)  -- R291
  | cTsTa1 (tsc : TSC) (time : CP56Time2a)  -- R292
  | pMeNa1 (nva : NVA) (qpm : QPM)  -- R293
  | pMeNb1 (sva : SVA) (qpm : QPM)  -- R294
  | pMeNc1 (r32 : R32) (qpm : QPM)  -- R295
  | pAcNa1 (qpa : QPA)  -- R296
  | fFrNa1 (nof : NOF) (lof : LOF) (frq : FRQ)  -- R297
  | fSrNa1 (nof : NOF) (nos : NOS) (lof : LOF) (srq : SRQ)  -- R298
  | fScNa1 (nof : NOF) (nos : NOS) (scq : SCQ)  -- R299
  | fLsNa1 (nof : NOF) (nos : NOS) (lsq : LSQ) (chs : CHS)  -- R300
  | fAfNa1 (nof : NOF) (nos : NOS) (afq : AFQ)  -- R301
  | fSgNa1 (nof : NOF) (nos : NOS) (seg : List Byte)  -- R302
  | fDrTa1 (nof : NOF) (lof : LOF) (sof : SOF) (time : CP56Time2a)  -- R303
  | fScNb1 (nof : NOF) (start : CP56Time2a) (stop : CP56Time2a)  -- R304
  | raw (octets : List Byte)  -- 44_asdu_codec.md R329
deriving DecidableEq, Repr

/-- An information-object record (10_state.md R41): what E_IO holds. -/
structure IO where
  type : Byte
  ioa  : Ioa
  body : Body
deriving DecidableEq, Repr

/-- The body of an ASDU_ADD_IO operand, as the host gives it: values that may be wider than their fields, since
44_asdu_codec.md R321 check 5 is the block's to make (log entry 11). -/
inductive BodyOperand where
  /-- The octets of a private type's body. -/
  | raw (octets : List Byte)
  /-- The variant of a fixed-size standard type: its field values as 64-bit two's complement numbers, in the order
  of the type's elements and, within an element, from its lowest bit up. -/
  | std (variant : TypeId) (values : List (BitVec 64))
  /-- The variant of type 125 (43_io_control_file.md R302). -/
  | seg (nof nos : BitVec 64) (seg : List Byte)
deriving DecidableEq, Repr

/-- The operand of ASDU_ADD_IO (30_encoding.md R103). The address is 32 bits wide, so that an address no IOA field
holds can be given (log entry 11). -/
structure IOOperand where
  type : Byte
  ioa  : BitVec 32
  body : BodyOperand
deriving DecidableEq, Repr

/-! ## Operands of the other commands -/

/-- TAG (10_state.md R52): opaque to the block. -/
structure Tag where
  qidx : BitVec 16
  ts   : BitVec 64
deriving DecidableEq, Repr

/-- UFN (30_encoding.md R103): the six U-frame functions of 30_encoding.md R111. -/
inductive Ufn where
  | startdtAct
  | startdtCon
  | stopdtAct
  | stopdtCon
  | testfrAct
  | testfrCon
deriving DecidableEq, Repr

/-- The operand of RESET (10_state.md R32), as the host gives it: octets and 16-bit numbers that need not meet the
ranges of 00_scope.md R6 to R18, which RESET checks (70_reset_and_hazards.md R541; log entry 16).
LINK_MODE: 0 unbalanced, 1 balanced. APCI_ROLE: 0 controlled, 1 controlling. STRICT_LENGTH: 0 false, 1 true.
FCS_MODE: 0 SUM8. Any other value there is no value of the parameter's type. -/
structure ConfigOperand where
  cotLen       : Byte
  caLen        : Byte
  ioaLen       : Byte
  typeIdLen    : Byte
  maxAsduLen   : BitVec 16
  k            : BitVec 16
  w            : BitVec 16
  linkAddrLen  : Byte
  linkMode     : Byte
  apciRole     : Byte
  strictLength : Byte
  fcsMode      : Byte
  privateTypes : List PrivateType
deriving DecidableEq, Repr

/-! ## The instructions -/

/-- The encoding spaces of 30_encoding.md, one for each format of spec/opcode_table.json (the four control formats
are two, because the PRM bit tells primary from secondary). The same octet stands for different rows in different
spaces (log entry 3). -/
inductive Space where
  | command
  | asduType
  | apci
  | ft12
  | ctlUnbalanced
  | ctlBalanced
deriving DecidableEq, Repr

/-- One constructor per row of spec/opcode_table.json. -/
inductive Instr where
  -- COMMAND rows (30_encoding.md R101, R103)
  | nop
  | reset (cfg : ConfigOperand)
  | asduBegin (sq t pn : Bool) (cot oa : Byte) (ca : BitVec 16)
  | asduAddIo (io : IOOperand)
  | asduSetRaw (type count : Byte) (data : List Byte)
  | asduEncode
  | asduDecode (off len : BitVec 16)
  | asduGetElement (idx : Byte)
  | asduRewriteCot (cot : Byte) (pn : Bool)
  | ft12EncFixed (c : Byte) (a : BitVec 16)
  | ft12EncVar (c : Byte) (a : BitVec 16)
  | ft12EncSingle
  | ft12Decode (len : BitVec 16)
  | apciReceive (len : BitVec 16)
  | apciSendI (tag : Tag)
  | apciSendS
  | apciSendU (fn : Ufn)
  | apciReset
  | chkResetFile
  | chkBeginSection
  | chkAdd (buf : Buf) (off len : BitVec 16)
  | chkAddElement
  | chkCheckSection (chs : Byte)
  | chkCloseSection
  | chkCheckFile (chs : Byte)
  -- ASDU_TYPE rows: ASDU_ADD_IO with an object of the type (log entry 2)
  | mSpNa1 (ioa : Ioa) (siq : SIQ)
  | mSpTa1 (ioa : Ioa) (siq : SIQ) (time : CP24Time2a)
  | mDpNa1 (ioa : Ioa) (diq : DIQ)
  | mDpTa1 (ioa : Ioa) (diq : DIQ) (time : CP24Time2a)
  | mStNa1 (ioa : Ioa) (vti : VTI) (qds : QDS)
  | mStTa1 (ioa : Ioa) (vti : VTI) (qds : QDS) (time : CP24Time2a)
  | mBoNa1 (ioa : Ioa) (bsi : BSI) (qds : QDS)
  | mBoTa1 (ioa : Ioa) (bsi : BSI) (qds : QDS) (time : CP24Time2a)
  | mMeNa1 (ioa : Ioa) (nva : NVA) (qds : QDS)
  | mMeTa1 (ioa : Ioa) (nva : NVA) (qds : QDS) (time : CP24Time2a)
  | mMeNb1 (ioa : Ioa) (sva : SVA) (qds : QDS)
  | mMeTb1 (ioa : Ioa) (sva : SVA) (qds : QDS) (time : CP24Time2a)
  | mMeNc1 (ioa : Ioa) (r32 : R32) (qds : QDS)
  | mMeTc1 (ioa : Ioa) (r32 : R32) (qds : QDS) (time : CP24Time2a)
  | mItNa1 (ioa : Ioa) (bcr : BCR)
  | mItTa1 (ioa : Ioa) (bcr : BCR) (time : CP24Time2a)
  | mEpTa1 (ioa : Ioa) (sep : SEP) (elapsed : CP16Time2a) (time : CP24Time2a)
  | mEpTb1 (ioa : Ioa) (spe : SPE) (qdp : QDP) (duration : CP16Time2a) (time : CP24Time2a)
  | mEpTc1 (ioa : Ioa) (oci : OCI) (qdp : QDP) (optime : CP16Time2a) (time : CP24Time2a)
  | mPsNa1 (ioa : Ioa) (scd : SCD) (qds : QDS)
  | mMeNd1 (ioa : Ioa) (nva : NVA)
  | mSpTb1 (ioa : Ioa) (siq : SIQ) (time : CP56Time2a)
  | mDpTb1 (ioa : Ioa) (diq : DIQ) (time : CP56Time2a)
  | mStTb1 (ioa : Ioa) (vti : VTI) (qds : QDS) (time : CP56Time2a)
  | mBoTb1 (ioa : Ioa) (bsi : BSI) (qds : QDS) (time : CP56Time2a)
  | mMeTd1 (ioa : Ioa) (nva : NVA) (qds : QDS) (time : CP56Time2a)
  | mMeTe1 (ioa : Ioa) (sva : SVA) (qds : QDS) (time : CP56Time2a)
  | mMeTf1 (ioa : Ioa) (r32 : R32) (qds : QDS) (time : CP56Time2a)
  | mItTb1 (ioa : Ioa) (bcr : BCR) (time : CP56Time2a)
  | mEpTd1 (ioa : Ioa) (sep : SEP) (elapsed : CP16Time2a) (time : CP56Time2a)
  | mEpTe1 (ioa : Ioa) (spe : SPE) (qdp : QDP) (duration : CP16Time2a) (time : CP56Time2a)
  | mEpTf1 (ioa : Ioa) (oci : OCI) (qdp : QDP) (optime : CP16Time2a) (time : CP56Time2a)
  | cScNa1 (ioa : Ioa) (sco : SCO)
  | cDcNa1 (ioa : Ioa) (dco : DCO)
  | cRcNa1 (ioa : Ioa) (rco : RCO)
  | cSeNa1 (ioa : Ioa) (nva : NVA) (qos : QOS)
  | cSeNb1 (ioa : Ioa) (sva : SVA) (qos : QOS)
  | cSeNc1 (ioa : Ioa) (r32 : R32) (qos : QOS)
  | cBoNa1 (ioa : Ioa) (bsi : BSI)
  | cScTa1 (ioa : Ioa) (sco : SCO) (time : CP56Time2a)
  | cDcTa1 (ioa : Ioa) (dco : DCO) (time : CP56Time2a)
  | cRcTa1 (ioa : Ioa) (rco : RCO) (time : CP56Time2a)
  | cSeTa1 (ioa : Ioa) (nva : NVA) (qos : QOS) (time : CP56Time2a)
  | cSeTb1 (ioa : Ioa) (sva : SVA) (qos : QOS) (time : CP56Time2a)
  | cSeTc1 (ioa : Ioa) (r32 : R32) (qos : QOS) (time : CP56Time2a)
  | cBoTa1 (ioa : Ioa) (bsi : BSI) (time : CP56Time2a)
  | mEiNa1 (ioa : Ioa) (coi : COI)
  | cIcNa1 (ioa : Ioa) (qoi : QOI)
  | cCiNa1 (ioa : Ioa) (qcc : QCC)
  | cRdNa1 (ioa : Ioa)
  | cCsNa1 (ioa : Ioa) (time : CP56Time2a)
  | cTsNa1 (ioa : Ioa) (fbp : FBP)
  | cRpNa1 (ioa : Ioa) (qrp : QRP)
  | cCdNa1 (ioa : Ioa) (delay : CP16Time2a)
  | cTsTa1 (ioa : Ioa) (tsc : TSC) (time : CP56Time2a)
  | pMeNa1 (ioa : Ioa) (nva : NVA) (qpm : QPM)
  | pMeNb1 (ioa : Ioa) (sva : SVA) (qpm : QPM)
  | pMeNc1 (ioa : Ioa) (r32 : R32) (qpm : QPM)
  | pAcNa1 (ioa : Ioa) (qpa : QPA)
  | fFrNa1 (ioa : Ioa) (nof : NOF) (lof : LOF) (frq : FRQ)
  | fSrNa1 (ioa : Ioa) (nof : NOF) (nos : NOS) (lof : LOF) (srq : SRQ)
  | fScNa1 (ioa : Ioa) (nof : NOF) (nos : NOS) (scq : SCQ)
  | fLsNa1 (ioa : Ioa) (nof : NOF) (nos : NOS) (lsq : LSQ) (chs : CHS)
  | fAfNa1 (ioa : Ioa) (nof : NOF) (nos : NOS) (afq : AFQ)
  | fSgNa1 (ioa : Ioa) (nof : NOF) (nos : NOS) (seg : List Byte)
  | fDrTa1 (ioa : Ioa) (nof : NOF) (lof : LOF) (sof : SOF) (time : CP56Time2a)
  | fScNb1 (ioa : Ioa) (nof : NOF) (start : CP56Time2a) (stop : CP56Time2a)
  -- APCI_CTRL1 rows: reception of an APDU of the format (log entry 2); `tail` is what follows the control octets
  | iFrame (ns7 : BitVec 7) (ctrl2 ctrl3 ctrl4 : Byte) (tail : List Byte)
  | sFrame (ctrl2 ctrl3 ctrl4 : Byte) (tail : List Byte)
  | uStartdtAct (ctrl2 ctrl3 ctrl4 : Byte) (tail : List Byte)
  | uStartdtCon (ctrl2 ctrl3 ctrl4 : Byte) (tail : List Byte)
  | uStopdtAct (ctrl2 ctrl3 ctrl4 : Byte) (tail : List Byte)
  | uStopdtCon (ctrl2 ctrl3 ctrl4 : Byte) (tail : List Byte)
  | uTestfrAct (ctrl2 ctrl3 ctrl4 : Byte) (tail : List Byte)
  | uTestfrCon (ctrl2 ctrl3 ctrl4 : Byte) (tail : List Byte)
  -- FT12_START rows: reception of a frame with that start octet (log entry 2); `tail` is what follows it
  | ft12Fixed (tail : List Byte)
  | ft12Variable (tail : List Byte)
  | ft12Single (tail : List Byte)
  -- FT12_CONTROL rows, unbalanced and then balanced: reception of a frame whose control octet is the row's, with the
  -- link address octets `addr` and the user data `ud` (log entry 2)
  | unbPriResetRemoteLink (bit7 fcb fcv : BitVec 1) (addr : List Byte)
  | unbPriResetUserProcess (bit7 fcb fcv : BitVec 1) (addr : List Byte)
  | unbPriUserDataConfirm (bit7 fcb fcv : BitVec 1) (addr ud : List Byte)
  | unbPriUserDataNoReply (bit7 fcb fcv : BitVec 1) (addr ud : List Byte)
  | unbPriRequestAccessDemand (bit7 fcb fcv : BitVec 1) (addr : List Byte)
  | unbPriRequestLinkStatus (bit7 fcb fcv : BitVec 1) (addr : List Byte)
  | unbPriRequestClass1 (bit7 fcb fcv : BitVec 1) (addr : List Byte)
  | unbPriRequestClass2 (bit7 fcb fcv : BitVec 1) (addr : List Byte)
  | balPriResetRemoteLink (bit7 fcb fcv : BitVec 1) (addr : List Byte)
  | balPriResetUserProcess (bit7 fcb fcv : BitVec 1) (addr : List Byte)
  | balPriTestLink (bit7 fcb fcv : BitVec 1) (addr : List Byte)
  | balPriUserDataConfirm (bit7 fcb fcv : BitVec 1) (addr ud : List Byte)
  | balPriUserDataNoReply (bit7 fcb fcv : BitVec 1) (addr ud : List Byte)
  | balPriRequestLinkStatus (bit7 fcb fcv : BitVec 1) (addr : List Byte)
  | unbSecAck (bit7 acd dfc : BitVec 1) (addr : List Byte)
  | unbSecNackBusy (bit7 acd dfc : BitVec 1) (addr : List Byte)
  | unbSecUserData (bit7 acd dfc : BitVec 1) (addr ud : List Byte)
  | unbSecNackNoData (bit7 acd dfc : BitVec 1) (addr : List Byte)
  | unbSecLinkStatus (bit7 acd dfc : BitVec 1) (addr : List Byte)
  | unbSecLinkNotFunctioning (bit7 acd dfc : BitVec 1) (addr : List Byte)
  | unbSecLinkNotImplemented (bit7 acd dfc : BitVec 1) (addr : List Byte)
  | balSecAck (bit7 bit5 dfc : BitVec 1) (addr : List Byte)
  | balSecNackBusy (bit7 bit5 dfc : BitVec 1) (addr : List Byte)
  | balSecLinkStatus (bit7 bit5 dfc : BitVec 1) (addr : List Byte)
  | balSecLinkNotFunctioning (bit7 bit5 dfc : BitVec 1) (addr : List Byte)
  | balSecLinkNotImplemented (bit7 bit5 dfc : BitVec 1) (addr : List Byte)
deriving DecidableEq, Repr

end Sys2Proof
end

