-- ==== Sys2Proof/Machine/Elements.lean ====
section
/-! DEFINITION. The codecs of the information elements (41_primitive_codecs.md), and the octet string helpers
that every codec, encoder and decoder uses. Each element is read as 41_primitive_codecs.md R150 says: its
octets are one little-endian number, and each field is a slice of it. -/

namespace Sys2Proof

/-! ## Octet strings (00_scope.md R20 to R22) -/

/-- `LE_n(v)` (00_scope.md R22): the n octets of `v`, the least significant first. -/
def leOctets : Nat → Nat → List Byte
  | 0, _ => []
  | n + 1, v => BitVec.ofNat 8 v :: leOctets n (v / 256)

/-- `fromLE` (00_scope.md R22). -/
def fromLE : List Byte → Nat
  | [] => 0
  | b :: bs => b.toNat + 256 * fromLE bs

/-- `SUM8` (47_checksum.md R470): the sum of the octets modulo 256; 0 of the empty string. -/
def sum8 (os : List Byte) : Byte := os.foldl (fun acc b => acc + b) 0#8

/-- The octet at offset `i` of a string. The callers ask only for offsets inside it. -/
def octet (os : List Byte) (i : Nat) : Byte := os.getD i 0#8

/-- The `n` octets from offset `off` on. -/
def slice (os : List Byte) (off n : Nat) : List Byte := (os.drop off).take n

/-- The bit of a truth value: 1 when it is set. -/
def bit (b : Bool) : BitVec 1 := BitVec.ofBool b

/-- Does a 64-bit two's complement number fit a field of `width` bits (44_asdu_codec.md R321 check 5)? -/
def fitsField (width : Nat) (signed : Bool) (v : BitVec 64) : Bool :=
  if signed then decide (-(2 ^ (width - 1) : Int) ≤ v.toInt ∧ v.toInt < (2 ^ (width - 1) : Int))
  else decide (v.toNat < 2 ^ width)

/-- Do the values fit the fields one by one, as many of one as of the other? -/
def fitsFields : List (Nat × Bool) → List (BitVec 64) → Bool
  | [], [] => true
  | (width, signed) :: ws, v :: vs => fitsField width signed v && fitsFields ws vs
  | _, _ => false

/-- The number whose bits are the low bits of the values, the first field lowest (41_primitive_codecs.md R150:
"Encoding writes each field's low bits into its slice"). -/
def packFields : List (Nat × Bool) → List (BitVec 64) → Nat
  | (width, _) :: ws, v :: vs => v.toNat % 2 ^ width + 2 ^ width * packFields ws vs
  | _, _ => 0

/-! ## The elements

For an element `E` of n octets: `E.word` is its number of 8n bits, `E.ofWord` the record that a number
stands for, `E.enc` and `E.dec` the octet codec of R150, and `E.fields` the width and the signedness of each
field from bit 0 up. -/

/-- The bits of SIQ (41_primitive_codecs.md R151). -/
def SIQ.word (e : SIQ) : BitVec 8 := e.iv ++ e.nt ++ e.sb ++ e.bl ++ e.res ++ e.spi
/-- The record that the bits of SIQ stand for. -/
def SIQ.ofWord (b : BitVec 8) : SIQ :=
  { spi := b.extractLsb' 0 1, res := b.extractLsb' 1 3, bl := b.extractLsb' 4 1, sb := b.extractLsb' 5 1,
    nt := b.extractLsb' 6 1, iv := b.extractLsb' 7 1 }
/-- SIQ.enc: 1 octet, little-endian. -/
def SIQ.enc (e : SIQ) : List Byte := leOctets 1 e.word.toNat
/-- SIQ.dec: the record of the first 1 octet of a string. -/
def SIQ.dec (os : List Byte) : SIQ := SIQ.ofWord (BitVec.ofNat 8 (fromLE (os.take 1)))
/-- The fields of SIQ, from bit 0 up. -/
def SIQ.fields : List (Nat × Bool) := [(1, false), (3, false), (1, false), (1, false), (1, false), (1, false)]

/-- The bits of DIQ (41_primitive_codecs.md R152). -/
def DIQ.word (e : DIQ) : BitVec 8 := e.iv ++ e.nt ++ e.sb ++ e.bl ++ e.res ++ e.dpi
/-- The record that the bits of DIQ stand for. -/
def DIQ.ofWord (b : BitVec 8) : DIQ :=
  { dpi := b.extractLsb' 0 2, res := b.extractLsb' 2 2, bl := b.extractLsb' 4 1, sb := b.extractLsb' 5 1,
    nt := b.extractLsb' 6 1, iv := b.extractLsb' 7 1 }
/-- DIQ.enc: 1 octet, little-endian. -/
def DIQ.enc (e : DIQ) : List Byte := leOctets 1 e.word.toNat
/-- DIQ.dec: the record of the first 1 octet of a string. -/
def DIQ.dec (os : List Byte) : DIQ := DIQ.ofWord (BitVec.ofNat 8 (fromLE (os.take 1)))
/-- The fields of DIQ, from bit 0 up. -/
def DIQ.fields : List (Nat × Bool) := [(2, false), (2, false), (1, false), (1, false), (1, false), (1, false)]

/-- The bits of QDS (41_primitive_codecs.md R153). -/
def QDS.word (e : QDS) : BitVec 8 := e.iv ++ e.nt ++ e.sb ++ e.bl ++ e.res ++ e.ov
/-- The record that the bits of QDS stand for. -/
def QDS.ofWord (b : BitVec 8) : QDS :=
  { ov := b.extractLsb' 0 1, res := b.extractLsb' 1 3, bl := b.extractLsb' 4 1, sb := b.extractLsb' 5 1,
    nt := b.extractLsb' 6 1, iv := b.extractLsb' 7 1 }
/-- QDS.enc: 1 octet, little-endian. -/
def QDS.enc (e : QDS) : List Byte := leOctets 1 e.word.toNat
/-- QDS.dec: the record of the first 1 octet of a string. -/
def QDS.dec (os : List Byte) : QDS := QDS.ofWord (BitVec.ofNat 8 (fromLE (os.take 1)))
/-- The fields of QDS, from bit 0 up. -/
def QDS.fields : List (Nat × Bool) := [(1, false), (3, false), (1, false), (1, false), (1, false), (1, false)]

/-- The bits of VTI (41_primitive_codecs.md R154). -/
def VTI.word (e : VTI) : BitVec 8 := e.t ++ e.val
/-- The record that the bits of VTI stand for. -/
def VTI.ofWord (b : BitVec 8) : VTI :=
  { val := b.extractLsb' 0 7, t := b.extractLsb' 7 1 }
/-- VTI.enc: 1 octet, little-endian. -/
def VTI.enc (e : VTI) : List Byte := leOctets 1 e.word.toNat
/-- VTI.dec: the record of the first 1 octet of a string. -/
def VTI.dec (os : List Byte) : VTI := VTI.ofWord (BitVec.ofNat 8 (fromLE (os.take 1)))
/-- The fields of VTI, from bit 0 up. -/
def VTI.fields : List (Nat × Bool) := [(7, true), (1, false)]

/-- The bits of NVA (41_primitive_codecs.md R155). -/
def NVA.word (e : NVA) : BitVec 16 := e.raw
/-- The record that the bits of NVA stand for. -/
def NVA.ofWord (b : BitVec 16) : NVA :=
  { raw := b.extractLsb' 0 16 }
/-- NVA.enc: 2 octets, little-endian. -/
def NVA.enc (e : NVA) : List Byte := leOctets 2 e.word.toNat
/-- NVA.dec: the record of the first 2 octets of a string. -/
def NVA.dec (os : List Byte) : NVA := NVA.ofWord (BitVec.ofNat 16 (fromLE (os.take 2)))
/-- The fields of NVA, from bit 0 up. -/
def NVA.fields : List (Nat × Bool) := [(16, true)]

/-- The bits of SVA (41_primitive_codecs.md R156). -/
def SVA.word (e : SVA) : BitVec 16 := e.val
/-- The record that the bits of SVA stand for. -/
def SVA.ofWord (b : BitVec 16) : SVA :=
  { val := b.extractLsb' 0 16 }
/-- SVA.enc: 2 octets, little-endian. -/
def SVA.enc (e : SVA) : List Byte := leOctets 2 e.word.toNat
/-- SVA.dec: the record of the first 2 octets of a string. -/
def SVA.dec (os : List Byte) : SVA := SVA.ofWord (BitVec.ofNat 16 (fromLE (os.take 2)))
/-- The fields of SVA, from bit 0 up. -/
def SVA.fields : List (Nat × Bool) := [(16, true)]

/-- The bits of R32 (41_primitive_codecs.md R157). -/
def R32.word (e : R32) : BitVec 32 := e.bits
/-- The record that the bits of R32 stand for. -/
def R32.ofWord (b : BitVec 32) : R32 :=
  { bits := b.extractLsb' 0 32 }
/-- R32.enc: 4 octets, little-endian. -/
def R32.enc (e : R32) : List Byte := leOctets 4 e.word.toNat
/-- R32.dec: the record of the first 4 octets of a string. -/
def R32.dec (os : List Byte) : R32 := R32.ofWord (BitVec.ofNat 32 (fromLE (os.take 4)))
/-- The fields of R32, from bit 0 up. -/
def R32.fields : List (Nat × Bool) := [(32, false)]

/-- The bits of BSI (41_primitive_codecs.md R158). -/
def BSI.word (e : BSI) : BitVec 32 := e.bits
/-- The record that the bits of BSI stand for. -/
def BSI.ofWord (b : BitVec 32) : BSI :=
  { bits := b.extractLsb' 0 32 }
/-- BSI.enc: 4 octets, little-endian. -/
def BSI.enc (e : BSI) : List Byte := leOctets 4 e.word.toNat
/-- BSI.dec: the record of the first 4 octets of a string. -/
def BSI.dec (os : List Byte) : BSI := BSI.ofWord (BitVec.ofNat 32 (fromLE (os.take 4)))
/-- The fields of BSI, from bit 0 up. -/
def BSI.fields : List (Nat × Bool) := [(32, false)]

/-- The bits of BCR (41_primitive_codecs.md R159). -/
def BCR.word (e : BCR) : BitVec 40 := e.iv ++ e.ca ++ e.cy ++ e.sqn ++ e.counter
/-- The record that the bits of BCR stand for. -/
def BCR.ofWord (b : BitVec 40) : BCR :=
  { counter := b.extractLsb' 0 32, sqn := b.extractLsb' 32 5, cy := b.extractLsb' 37 1,
    ca := b.extractLsb' 38 1, iv := b.extractLsb' 39 1 }
/-- BCR.enc: 5 octets, little-endian. -/
def BCR.enc (e : BCR) : List Byte := leOctets 5 e.word.toNat
/-- BCR.dec: the record of the first 5 octets of a string. -/
def BCR.dec (os : List Byte) : BCR := BCR.ofWord (BitVec.ofNat 40 (fromLE (os.take 5)))
/-- The fields of BCR, from bit 0 up. -/
def BCR.fields : List (Nat × Bool) := [(32, true), (5, false), (1, false), (1, false), (1, false)]

/-- The bits of SEP (41_primitive_codecs.md R160). -/
def SEP.word (e : SEP) : BitVec 8 := e.iv ++ e.nt ++ e.sb ++ e.bl ++ e.ei ++ e.res ++ e.es
/-- The record that the bits of SEP stand for. -/
def SEP.ofWord (b : BitVec 8) : SEP :=
  { es := b.extractLsb' 0 2, res := b.extractLsb' 2 1, ei := b.extractLsb' 3 1, bl := b.extractLsb' 4 1,
    sb := b.extractLsb' 5 1, nt := b.extractLsb' 6 1, iv := b.extractLsb' 7 1 }
/-- SEP.enc: 1 octet, little-endian. -/
def SEP.enc (e : SEP) : List Byte := leOctets 1 e.word.toNat
/-- SEP.dec: the record of the first 1 octet of a string. -/
def SEP.dec (os : List Byte) : SEP := SEP.ofWord (BitVec.ofNat 8 (fromLE (os.take 1)))
/-- The fields of SEP, from bit 0 up. -/
def SEP.fields : List (Nat × Bool) := [(2, false), (1, false), (1, false), (1, false), (1, false), (1, false), (1, false)]

/-- The bits of SPE (41_primitive_codecs.md R161). -/
def SPE.word (e : SPE) : BitVec 8 := e.res ++ e.srd ++ e.sie ++ e.sl3 ++ e.sl2 ++ e.sl1 ++ e.gs
/-- The record that the bits of SPE stand for. -/
def SPE.ofWord (b : BitVec 8) : SPE :=
  { gs := b.extractLsb' 0 1, sl1 := b.extractLsb' 1 1, sl2 := b.extractLsb' 2 1, sl3 := b.extractLsb' 3 1,
    sie := b.extractLsb' 4 1, srd := b.extractLsb' 5 1, res := b.extractLsb' 6 2 }
/-- SPE.enc: 1 octet, little-endian. -/
def SPE.enc (e : SPE) : List Byte := leOctets 1 e.word.toNat
/-- SPE.dec: the record of the first 1 octet of a string. -/
def SPE.dec (os : List Byte) : SPE := SPE.ofWord (BitVec.ofNat 8 (fromLE (os.take 1)))
/-- The fields of SPE, from bit 0 up. -/
def SPE.fields : List (Nat × Bool) := [(1, false), (1, false), (1, false), (1, false), (1, false), (1, false), (2, false)]

/-- The bits of OCI (41_primitive_codecs.md R162). -/
def OCI.word (e : OCI) : BitVec 8 := e.res ++ e.cl3 ++ e.cl2 ++ e.cl1 ++ e.gc
/-- The record that the bits of OCI stand for. -/
def OCI.ofWord (b : BitVec 8) : OCI :=
  { gc := b.extractLsb' 0 1, cl1 := b.extractLsb' 1 1, cl2 := b.extractLsb' 2 1, cl3 := b.extractLsb' 3 1,
    res := b.extractLsb' 4 4 }
/-- OCI.enc: 1 octet, little-endian. -/
def OCI.enc (e : OCI) : List Byte := leOctets 1 e.word.toNat
/-- OCI.dec: the record of the first 1 octet of a string. -/
def OCI.dec (os : List Byte) : OCI := OCI.ofWord (BitVec.ofNat 8 (fromLE (os.take 1)))
/-- The fields of OCI, from bit 0 up. -/
def OCI.fields : List (Nat × Bool) := [(1, false), (1, false), (1, false), (1, false), (4, false)]

/-- The bits of QDP (41_primitive_codecs.md R163). -/
def QDP.word (e : QDP) : BitVec 8 := e.iv ++ e.nt ++ e.sb ++ e.bl ++ e.ei ++ e.res
/-- The record that the bits of QDP stand for. -/
def QDP.ofWord (b : BitVec 8) : QDP :=
  { res := b.extractLsb' 0 3, ei := b.extractLsb' 3 1, bl := b.extractLsb' 4 1, sb := b.extractLsb' 5 1,
    nt := b.extractLsb' 6 1, iv := b.extractLsb' 7 1 }
/-- QDP.enc: 1 octet, little-endian. -/
def QDP.enc (e : QDP) : List Byte := leOctets 1 e.word.toNat
/-- QDP.dec: the record of the first 1 octet of a string. -/
def QDP.dec (os : List Byte) : QDP := QDP.ofWord (BitVec.ofNat 8 (fromLE (os.take 1)))
/-- The fields of QDP, from bit 0 up. -/
def QDP.fields : List (Nat × Bool) := [(3, false), (1, false), (1, false), (1, false), (1, false), (1, false)]

/-- The bits of SCD (41_primitive_codecs.md R164). -/
def SCD.word (e : SCD) : BitVec 32 := e.cd ++ e.st
/-- The record that the bits of SCD stand for. -/
def SCD.ofWord (b : BitVec 32) : SCD :=
  { st := b.extractLsb' 0 16, cd := b.extractLsb' 16 16 }
/-- SCD.enc: 4 octets, little-endian. -/
def SCD.enc (e : SCD) : List Byte := leOctets 4 e.word.toNat
/-- SCD.dec: the record of the first 4 octets of a string. -/
def SCD.dec (os : List Byte) : SCD := SCD.ofWord (BitVec.ofNat 32 (fromLE (os.take 4)))
/-- The fields of SCD, from bit 0 up. -/
def SCD.fields : List (Nat × Bool) := [(16, false), (16, false)]

/-- The bits of CP16Time2a (41_primitive_codecs.md R165). -/
def CP16Time2a.word (e : CP16Time2a) : BitVec 16 := e.ms
/-- The record that the bits of CP16Time2a stand for. -/
def CP16Time2a.ofWord (b : BitVec 16) : CP16Time2a :=
  { ms := b.extractLsb' 0 16 }
/-- CP16Time2a.enc: 2 octets, little-endian. -/
def CP16Time2a.enc (e : CP16Time2a) : List Byte := leOctets 2 e.word.toNat
/-- CP16Time2a.dec: the record of the first 2 octets of a string. -/
def CP16Time2a.dec (os : List Byte) : CP16Time2a := CP16Time2a.ofWord (BitVec.ofNat 16 (fromLE (os.take 2)))
/-- The fields of CP16Time2a, from bit 0 up. -/
def CP16Time2a.fields : List (Nat × Bool) := [(16, false)]

/-- The bits of CP24Time2a (41_primitive_codecs.md R166). -/
def CP24Time2a.word (e : CP24Time2a) : BitVec 24 := e.iv ++ e.res1 ++ e.min ++ e.ms
/-- The record that the bits of CP24Time2a stand for. -/
def CP24Time2a.ofWord (b : BitVec 24) : CP24Time2a :=
  { ms := b.extractLsb' 0 16, min := b.extractLsb' 16 6, res1 := b.extractLsb' 22 1, iv := b.extractLsb' 23 1 }
/-- CP24Time2a.enc: 3 octets, little-endian. -/
def CP24Time2a.enc (e : CP24Time2a) : List Byte := leOctets 3 e.word.toNat
/-- CP24Time2a.dec: the record of the first 3 octets of a string. -/
def CP24Time2a.dec (os : List Byte) : CP24Time2a := CP24Time2a.ofWord (BitVec.ofNat 24 (fromLE (os.take 3)))
/-- The fields of CP24Time2a, from bit 0 up. -/
def CP24Time2a.fields : List (Nat × Bool) := [(16, false), (6, false), (1, false), (1, false)]

/-- The bits of CP56Time2a (41_primitive_codecs.md R167). -/
def CP56Time2a.word (e : CP56Time2a) : BitVec 56 := e.res4 ++ e.year ++ e.res3 ++ e.mon ++ e.dow ++ e.day ++ e.su ++ e.res2 ++ e.hour ++ e.iv ++ e.res1 ++ e.min ++ e.ms
/-- The record that the bits of CP56Time2a stand for. -/
def CP56Time2a.ofWord (b : BitVec 56) : CP56Time2a :=
  { ms := b.extractLsb' 0 16, min := b.extractLsb' 16 6, res1 := b.extractLsb' 22 1, iv := b.extractLsb' 23 1,
    hour := b.extractLsb' 24 5, res2 := b.extractLsb' 29 2, su := b.extractLsb' 31 1,
    day := b.extractLsb' 32 5, dow := b.extractLsb' 37 3, mon := b.extractLsb' 40 4,
    res3 := b.extractLsb' 44 4, year := b.extractLsb' 48 7, res4 := b.extractLsb' 55 1 }
/-- CP56Time2a.enc: 7 octets, little-endian. -/
def CP56Time2a.enc (e : CP56Time2a) : List Byte := leOctets 7 e.word.toNat
/-- CP56Time2a.dec: the record of the first 7 octets of a string. -/
def CP56Time2a.dec (os : List Byte) : CP56Time2a := CP56Time2a.ofWord (BitVec.ofNat 56 (fromLE (os.take 7)))
/-- The fields of CP56Time2a, from bit 0 up. -/
def CP56Time2a.fields : List (Nat × Bool) := [(16, false), (6, false), (1, false), (1, false), (5, false), (2, false), (1, false), (5, false), (3, false), (4, false), (4, false), (7, false), (1, false)]

/-- The bits of SCO (41_primitive_codecs.md R168). -/
def SCO.word (e : SCO) : BitVec 8 := e.se ++ e.qu ++ e.res ++ e.scs
/-- The record that the bits of SCO stand for. -/
def SCO.ofWord (b : BitVec 8) : SCO :=
  { scs := b.extractLsb' 0 1, res := b.extractLsb' 1 1, qu := b.extractLsb' 2 5, se := b.extractLsb' 7 1 }
/-- SCO.enc: 1 octet, little-endian. -/
def SCO.enc (e : SCO) : List Byte := leOctets 1 e.word.toNat
/-- SCO.dec: the record of the first 1 octet of a string. -/
def SCO.dec (os : List Byte) : SCO := SCO.ofWord (BitVec.ofNat 8 (fromLE (os.take 1)))
/-- The fields of SCO, from bit 0 up. -/
def SCO.fields : List (Nat × Bool) := [(1, false), (1, false), (5, false), (1, false)]

/-- The bits of DCO (41_primitive_codecs.md R169). -/
def DCO.word (e : DCO) : BitVec 8 := e.se ++ e.qu ++ e.dcs
/-- The record that the bits of DCO stand for. -/
def DCO.ofWord (b : BitVec 8) : DCO :=
  { dcs := b.extractLsb' 0 2, qu := b.extractLsb' 2 5, se := b.extractLsb' 7 1 }
/-- DCO.enc: 1 octet, little-endian. -/
def DCO.enc (e : DCO) : List Byte := leOctets 1 e.word.toNat
/-- DCO.dec: the record of the first 1 octet of a string. -/
def DCO.dec (os : List Byte) : DCO := DCO.ofWord (BitVec.ofNat 8 (fromLE (os.take 1)))
/-- The fields of DCO, from bit 0 up. -/
def DCO.fields : List (Nat × Bool) := [(2, false), (5, false), (1, false)]

/-- The bits of RCO (41_primitive_codecs.md R170). -/
def RCO.word (e : RCO) : BitVec 8 := e.se ++ e.qu ++ e.rcs
/-- The record that the bits of RCO stand for. -/
def RCO.ofWord (b : BitVec 8) : RCO :=
  { rcs := b.extractLsb' 0 2, qu := b.extractLsb' 2 5, se := b.extractLsb' 7 1 }
/-- RCO.enc: 1 octet, little-endian. -/
def RCO.enc (e : RCO) : List Byte := leOctets 1 e.word.toNat
/-- RCO.dec: the record of the first 1 octet of a string. -/
def RCO.dec (os : List Byte) : RCO := RCO.ofWord (BitVec.ofNat 8 (fromLE (os.take 1)))
/-- The fields of RCO, from bit 0 up. -/
def RCO.fields : List (Nat × Bool) := [(2, false), (5, false), (1, false)]

/-- The bits of QOS (41_primitive_codecs.md R171). -/
def QOS.word (e : QOS) : BitVec 8 := e.se ++ e.ql
/-- The record that the bits of QOS stand for. -/
def QOS.ofWord (b : BitVec 8) : QOS :=
  { ql := b.extractLsb' 0 7, se := b.extractLsb' 7 1 }
/-- QOS.enc: 1 octet, little-endian. -/
def QOS.enc (e : QOS) : List Byte := leOctets 1 e.word.toNat
/-- QOS.dec: the record of the first 1 octet of a string. -/
def QOS.dec (os : List Byte) : QOS := QOS.ofWord (BitVec.ofNat 8 (fromLE (os.take 1)))
/-- The fields of QOS, from bit 0 up. -/
def QOS.fields : List (Nat × Bool) := [(7, false), (1, false)]

/-- The bits of QOI (41_primitive_codecs.md R172). -/
def QOI.word (e : QOI) : BitVec 8 := e.v
/-- The record that the bits of QOI stand for. -/
def QOI.ofWord (b : BitVec 8) : QOI :=
  { v := b.extractLsb' 0 8 }
/-- QOI.enc: 1 octet, little-endian. -/
def QOI.enc (e : QOI) : List Byte := leOctets 1 e.word.toNat
/-- QOI.dec: the record of the first 1 octet of a string. -/
def QOI.dec (os : List Byte) : QOI := QOI.ofWord (BitVec.ofNat 8 (fromLE (os.take 1)))
/-- The fields of QOI, from bit 0 up. -/
def QOI.fields : List (Nat × Bool) := [(8, false)]

/-- The bits of QCC (41_primitive_codecs.md R173). -/
def QCC.word (e : QCC) : BitVec 8 := e.frz ++ e.rqt
/-- The record that the bits of QCC stand for. -/
def QCC.ofWord (b : BitVec 8) : QCC :=
  { rqt := b.extractLsb' 0 6, frz := b.extractLsb' 6 2 }
/-- QCC.enc: 1 octet, little-endian. -/
def QCC.enc (e : QCC) : List Byte := leOctets 1 e.word.toNat
/-- QCC.dec: the record of the first 1 octet of a string. -/
def QCC.dec (os : List Byte) : QCC := QCC.ofWord (BitVec.ofNat 8 (fromLE (os.take 1)))
/-- The fields of QCC, from bit 0 up. -/
def QCC.fields : List (Nat × Bool) := [(6, false), (2, false)]

/-- The bits of QRP (41_primitive_codecs.md R174). -/
def QRP.word (e : QRP) : BitVec 8 := e.v
/-- The record that the bits of QRP stand for. -/
def QRP.ofWord (b : BitVec 8) : QRP :=
  { v := b.extractLsb' 0 8 }
/-- QRP.enc: 1 octet, little-endian. -/
def QRP.enc (e : QRP) : List Byte := leOctets 1 e.word.toNat
/-- QRP.dec: the record of the first 1 octet of a string. -/
def QRP.dec (os : List Byte) : QRP := QRP.ofWord (BitVec.ofNat 8 (fromLE (os.take 1)))
/-- The fields of QRP, from bit 0 up. -/
def QRP.fields : List (Nat × Bool) := [(8, false)]

/-- The bits of COI (41_primitive_codecs.md R175). -/
def COI.word (e : COI) : BitVec 8 := e.bi ++ e.cause
/-- The record that the bits of COI stand for. -/
def COI.ofWord (b : BitVec 8) : COI :=
  { cause := b.extractLsb' 0 7, bi := b.extractLsb' 7 1 }
/-- COI.enc: 1 octet, little-endian. -/
def COI.enc (e : COI) : List Byte := leOctets 1 e.word.toNat
/-- COI.dec: the record of the first 1 octet of a string. -/
def COI.dec (os : List Byte) : COI := COI.ofWord (BitVec.ofNat 8 (fromLE (os.take 1)))
/-- The fields of COI, from bit 0 up. -/
def COI.fields : List (Nat × Bool) := [(7, false), (1, false)]

/-- The bits of QPM (41_primitive_codecs.md R176). -/
def QPM.word (e : QPM) : BitVec 8 := e.pop ++ e.lpc ++ e.kpa
/-- The record that the bits of QPM stand for. -/
def QPM.ofWord (b : BitVec 8) : QPM :=
  { kpa := b.extractLsb' 0 6, lpc := b.extractLsb' 6 1, pop := b.extractLsb' 7 1 }
/-- QPM.enc: 1 octet, little-endian. -/
def QPM.enc (e : QPM) : List Byte := leOctets 1 e.word.toNat
/-- QPM.dec: the record of the first 1 octet of a string. -/
def QPM.dec (os : List Byte) : QPM := QPM.ofWord (BitVec.ofNat 8 (fromLE (os.take 1)))
/-- The fields of QPM, from bit 0 up. -/
def QPM.fields : List (Nat × Bool) := [(6, false), (1, false), (1, false)]

/-- The bits of QPA (41_primitive_codecs.md R177). -/
def QPA.word (e : QPA) : BitVec 8 := e.v
/-- The record that the bits of QPA stand for. -/
def QPA.ofWord (b : BitVec 8) : QPA :=
  { v := b.extractLsb' 0 8 }
/-- QPA.enc: 1 octet, little-endian. -/
def QPA.enc (e : QPA) : List Byte := leOctets 1 e.word.toNat
/-- QPA.dec: the record of the first 1 octet of a string. -/
def QPA.dec (os : List Byte) : QPA := QPA.ofWord (BitVec.ofNat 8 (fromLE (os.take 1)))
/-- The fields of QPA, from bit 0 up. -/
def QPA.fields : List (Nat × Bool) := [(8, false)]

/-- The bits of FBP (41_primitive_codecs.md R178). -/
def FBP.word (e : FBP) : BitVec 16 := e.v
/-- The record that the bits of FBP stand for. -/
def FBP.ofWord (b : BitVec 16) : FBP :=
  { v := b.extractLsb' 0 16 }
/-- FBP.enc: 2 octets, little-endian. -/
def FBP.enc (e : FBP) : List Byte := leOctets 2 e.word.toNat
/-- FBP.dec: the record of the first 2 octets of a string. -/
def FBP.dec (os : List Byte) : FBP := FBP.ofWord (BitVec.ofNat 16 (fromLE (os.take 2)))
/-- The fields of FBP, from bit 0 up. -/
def FBP.fields : List (Nat × Bool) := [(16, false)]

/-- The bits of TSC (41_primitive_codecs.md R179). -/
def TSC.word (e : TSC) : BitVec 16 := e.v
/-- The record that the bits of TSC stand for. -/
def TSC.ofWord (b : BitVec 16) : TSC :=
  { v := b.extractLsb' 0 16 }
/-- TSC.enc: 2 octets, little-endian. -/
def TSC.enc (e : TSC) : List Byte := leOctets 2 e.word.toNat
/-- TSC.dec: the record of the first 2 octets of a string. -/
def TSC.dec (os : List Byte) : TSC := TSC.ofWord (BitVec.ofNat 16 (fromLE (os.take 2)))
/-- The fields of TSC, from bit 0 up. -/
def TSC.fields : List (Nat × Bool) := [(16, false)]

/-- The bits of NOF (41_primitive_codecs.md R180). -/
def NOF.word (e : NOF) : BitVec 16 := e.v
/-- The record that the bits of NOF stand for. -/
def NOF.ofWord (b : BitVec 16) : NOF :=
  { v := b.extractLsb' 0 16 }
/-- NOF.enc: 2 octets, little-endian. -/
def NOF.enc (e : NOF) : List Byte := leOctets 2 e.word.toNat
/-- NOF.dec: the record of the first 2 octets of a string. -/
def NOF.dec (os : List Byte) : NOF := NOF.ofWord (BitVec.ofNat 16 (fromLE (os.take 2)))
/-- The fields of NOF, from bit 0 up. -/
def NOF.fields : List (Nat × Bool) := [(16, false)]

/-- The bits of NOS (41_primitive_codecs.md R181). -/
def NOS.word (e : NOS) : BitVec 8 := e.v
/-- The record that the bits of NOS stand for. -/
def NOS.ofWord (b : BitVec 8) : NOS :=
  { v := b.extractLsb' 0 8 }
/-- NOS.enc: 1 octet, little-endian. -/
def NOS.enc (e : NOS) : List Byte := leOctets 1 e.word.toNat
/-- NOS.dec: the record of the first 1 octet of a string. -/
def NOS.dec (os : List Byte) : NOS := NOS.ofWord (BitVec.ofNat 8 (fromLE (os.take 1)))
/-- The fields of NOS, from bit 0 up. -/
def NOS.fields : List (Nat × Bool) := [(8, false)]

/-- The bits of LOF (41_primitive_codecs.md R182). -/
def LOF.word (e : LOF) : BitVec 24 := e.v
/-- The record that the bits of LOF stand for. -/
def LOF.ofWord (b : BitVec 24) : LOF :=
  { v := b.extractLsb' 0 24 }
/-- LOF.enc: 3 octets, little-endian. -/
def LOF.enc (e : LOF) : List Byte := leOctets 3 e.word.toNat
/-- LOF.dec: the record of the first 3 octets of a string. -/
def LOF.dec (os : List Byte) : LOF := LOF.ofWord (BitVec.ofNat 24 (fromLE (os.take 3)))
/-- The fields of LOF, from bit 0 up. -/
def LOF.fields : List (Nat × Bool) := [(24, false)]

/-- The bits of LOS (41_primitive_codecs.md R183). -/
def LOS.word (e : LOS) : BitVec 8 := e.v
/-- The record that the bits of LOS stand for. -/
def LOS.ofWord (b : BitVec 8) : LOS :=
  { v := b.extractLsb' 0 8 }
/-- LOS.enc: 1 octet, little-endian. -/
def LOS.enc (e : LOS) : List Byte := leOctets 1 e.word.toNat
/-- LOS.dec: the record of the first 1 octet of a string. -/
def LOS.dec (os : List Byte) : LOS := LOS.ofWord (BitVec.ofNat 8 (fromLE (os.take 1)))
/-- The fields of LOS, from bit 0 up. -/
def LOS.fields : List (Nat × Bool) := [(8, false)]

/-- The bits of FRQ (41_primitive_codecs.md R184). -/
def FRQ.word (e : FRQ) : BitVec 8 := e.bs ++ e.ui7
/-- The record that the bits of FRQ stand for. -/
def FRQ.ofWord (b : BitVec 8) : FRQ :=
  { ui7 := b.extractLsb' 0 7, bs := b.extractLsb' 7 1 }
/-- FRQ.enc: 1 octet, little-endian. -/
def FRQ.enc (e : FRQ) : List Byte := leOctets 1 e.word.toNat
/-- FRQ.dec: the record of the first 1 octet of a string. -/
def FRQ.dec (os : List Byte) : FRQ := FRQ.ofWord (BitVec.ofNat 8 (fromLE (os.take 1)))
/-- The fields of FRQ, from bit 0 up. -/
def FRQ.fields : List (Nat × Bool) := [(7, false), (1, false)]

/-- The bits of SRQ (41_primitive_codecs.md R185). -/
def SRQ.word (e : SRQ) : BitVec 8 := e.bs ++ e.ui7
/-- The record that the bits of SRQ stand for. -/
def SRQ.ofWord (b : BitVec 8) : SRQ :=
  { ui7 := b.extractLsb' 0 7, bs := b.extractLsb' 7 1 }
/-- SRQ.enc: 1 octet, little-endian. -/
def SRQ.enc (e : SRQ) : List Byte := leOctets 1 e.word.toNat
/-- SRQ.dec: the record of the first 1 octet of a string. -/
def SRQ.dec (os : List Byte) : SRQ := SRQ.ofWord (BitVec.ofNat 8 (fromLE (os.take 1)))
/-- The fields of SRQ, from bit 0 up. -/
def SRQ.fields : List (Nat × Bool) := [(7, false), (1, false)]

/-- The bits of SCQ (41_primitive_codecs.md R186). -/
def SCQ.word (e : SCQ) : BitVec 8 := e.err ++ e.act
/-- The record that the bits of SCQ stand for. -/
def SCQ.ofWord (b : BitVec 8) : SCQ :=
  { act := b.extractLsb' 0 4, err := b.extractLsb' 4 4 }
/-- SCQ.enc: 1 octet, little-endian. -/
def SCQ.enc (e : SCQ) : List Byte := leOctets 1 e.word.toNat
/-- SCQ.dec: the record of the first 1 octet of a string. -/
def SCQ.dec (os : List Byte) : SCQ := SCQ.ofWord (BitVec.ofNat 8 (fromLE (os.take 1)))
/-- The fields of SCQ, from bit 0 up. -/
def SCQ.fields : List (Nat × Bool) := [(4, false), (4, false)]

/-- The bits of LSQ (41_primitive_codecs.md R187). -/
def LSQ.word (e : LSQ) : BitVec 8 := e.v
/-- The record that the bits of LSQ stand for. -/
def LSQ.ofWord (b : BitVec 8) : LSQ :=
  { v := b.extractLsb' 0 8 }
/-- LSQ.enc: 1 octet, little-endian. -/
def LSQ.enc (e : LSQ) : List Byte := leOctets 1 e.word.toNat
/-- LSQ.dec: the record of the first 1 octet of a string. -/
def LSQ.dec (os : List Byte) : LSQ := LSQ.ofWord (BitVec.ofNat 8 (fromLE (os.take 1)))
/-- The fields of LSQ, from bit 0 up. -/
def LSQ.fields : List (Nat × Bool) := [(8, false)]

/-- The bits of CHS (41_primitive_codecs.md R188). -/
def CHS.word (e : CHS) : BitVec 8 := e.v
/-- The record that the bits of CHS stand for. -/
def CHS.ofWord (b : BitVec 8) : CHS :=
  { v := b.extractLsb' 0 8 }
/-- CHS.enc: 1 octet, little-endian. -/
def CHS.enc (e : CHS) : List Byte := leOctets 1 e.word.toNat
/-- CHS.dec: the record of the first 1 octet of a string. -/
def CHS.dec (os : List Byte) : CHS := CHS.ofWord (BitVec.ofNat 8 (fromLE (os.take 1)))
/-- The fields of CHS, from bit 0 up. -/
def CHS.fields : List (Nat × Bool) := [(8, false)]

/-- The bits of AFQ (41_primitive_codecs.md R189). -/
def AFQ.word (e : AFQ) : BitVec 8 := e.err ++ e.ack
/-- The record that the bits of AFQ stand for. -/
def AFQ.ofWord (b : BitVec 8) : AFQ :=
  { ack := b.extractLsb' 0 4, err := b.extractLsb' 4 4 }
/-- AFQ.enc: 1 octet, little-endian. -/
def AFQ.enc (e : AFQ) : List Byte := leOctets 1 e.word.toNat
/-- AFQ.dec: the record of the first 1 octet of a string. -/
def AFQ.dec (os : List Byte) : AFQ := AFQ.ofWord (BitVec.ofNat 8 (fromLE (os.take 1)))
/-- The fields of AFQ, from bit 0 up. -/
def AFQ.fields : List (Nat × Bool) := [(4, false), (4, false)]

/-- The bits of SOF (41_primitive_codecs.md R190). -/
def SOF.word (e : SOF) : BitVec 8 := e.fa ++ e.forDir ++ e.lfd ++ e.status
/-- The record that the bits of SOF stand for. -/
def SOF.ofWord (b : BitVec 8) : SOF :=
  { status := b.extractLsb' 0 5, lfd := b.extractLsb' 5 1, forDir := b.extractLsb' 6 1, fa := b.extractLsb' 7 1 }
/-- SOF.enc: 1 octet, little-endian. -/
def SOF.enc (e : SOF) : List Byte := leOctets 1 e.word.toNat
/-- SOF.dec: the record of the first 1 octet of a string. -/
def SOF.dec (os : List Byte) : SOF := SOF.ofWord (BitVec.ofNat 8 (fromLE (os.take 1)))
/-- The fields of SOF, from bit 0 up. -/
def SOF.fields : List (Nat × Bool) := [(5, false), (1, false), (1, false), (1, false)]

end Sys2Proof
end

