-- ==== Sys2Proof/Machine/Objects.lean ====
section
/-! DEFINITION. The table of the 67 type identifiers (42_io_monitor.md R220 to R252, 43_io_control_file.md R270 to
R304): each type's number, payload size and sequence support, and the codec of its payload, field by field in the
order of its rule. -/

namespace Sys2Proof

/-- The number of a type identifier (42_io_monitor.md R220). -/
def TypeId.code : TypeId → Byte
  | .mSpNa1 => 1#8
  | .mSpTa1 => 2#8
  | .mDpNa1 => 3#8
  | .mDpTa1 => 4#8
  | .mStNa1 => 5#8
  | .mStTa1 => 6#8
  | .mBoNa1 => 7#8
  | .mBoTa1 => 8#8
  | .mMeNa1 => 9#8
  | .mMeTa1 => 10#8
  | .mMeNb1 => 11#8
  | .mMeTb1 => 12#8
  | .mMeNc1 => 13#8
  | .mMeTc1 => 14#8
  | .mItNa1 => 15#8
  | .mItTa1 => 16#8
  | .mEpTa1 => 17#8
  | .mEpTb1 => 18#8
  | .mEpTc1 => 19#8
  | .mPsNa1 => 20#8
  | .mMeNd1 => 21#8
  | .mSpTb1 => 30#8
  | .mDpTb1 => 31#8
  | .mStTb1 => 32#8
  | .mBoTb1 => 33#8
  | .mMeTd1 => 34#8
  | .mMeTe1 => 35#8
  | .mMeTf1 => 36#8
  | .mItTb1 => 37#8
  | .mEpTd1 => 38#8
  | .mEpTe1 => 39#8
  | .mEpTf1 => 40#8
  | .cScNa1 => 45#8
  | .cDcNa1 => 46#8
  | .cRcNa1 => 47#8
  | .cSeNa1 => 48#8
  | .cSeNb1 => 49#8
  | .cSeNc1 => 50#8
  | .cBoNa1 => 51#8
  | .cScTa1 => 58#8
  | .cDcTa1 => 59#8
  | .cRcTa1 => 60#8
  | .cSeTa1 => 61#8
  | .cSeTb1 => 62#8
  | .cSeTc1 => 63#8
  | .cBoTa1 => 64#8
  | .mEiNa1 => 70#8
  | .cIcNa1 => 100#8
  | .cCiNa1 => 101#8
  | .cRdNa1 => 102#8
  | .cCsNa1 => 103#8
  | .cTsNa1 => 104#8
  | .cRpNa1 => 105#8
  | .cCdNa1 => 106#8
  | .cTsTa1 => 107#8
  | .pMeNa1 => 110#8
  | .pMeNb1 => 111#8
  | .pMeNc1 => 112#8
  | .pAcNa1 => 113#8
  | .fFrNa1 => 120#8
  | .fSrNa1 => 121#8
  | .fScNa1 => 122#8
  | .fLsNa1 => 123#8
  | .fAfNa1 => 124#8
  | .fSgNa1 => 125#8
  | .fDrTa1 => 126#8
  | .fScNb1 => 127#8

/-- The standard type of a number, if the standard table has it (30_encoding.md R113). -/
def TypeId.ofByte? (b : Byte) : Option TypeId :=
  match b.toNat with
  | 1 => some .mSpNa1
  | 2 => some .mSpTa1
  | 3 => some .mDpNa1
  | 4 => some .mDpTa1
  | 5 => some .mStNa1
  | 6 => some .mStTa1
  | 7 => some .mBoNa1
  | 8 => some .mBoTa1
  | 9 => some .mMeNa1
  | 10 => some .mMeTa1
  | 11 => some .mMeNb1
  | 12 => some .mMeTb1
  | 13 => some .mMeNc1
  | 14 => some .mMeTc1
  | 15 => some .mItNa1
  | 16 => some .mItTa1
  | 17 => some .mEpTa1
  | 18 => some .mEpTb1
  | 19 => some .mEpTc1
  | 20 => some .mPsNa1
  | 21 => some .mMeNd1
  | 30 => some .mSpTb1
  | 31 => some .mDpTb1
  | 32 => some .mStTb1
  | 33 => some .mBoTb1
  | 34 => some .mMeTd1
  | 35 => some .mMeTe1
  | 36 => some .mMeTf1
  | 37 => some .mItTb1
  | 38 => some .mEpTd1
  | 39 => some .mEpTe1
  | 40 => some .mEpTf1
  | 45 => some .cScNa1
  | 46 => some .cDcNa1
  | 47 => some .cRcNa1
  | 48 => some .cSeNa1
  | 49 => some .cSeNb1
  | 50 => some .cSeNc1
  | 51 => some .cBoNa1
  | 58 => some .cScTa1
  | 59 => some .cDcTa1
  | 60 => some .cRcTa1
  | 61 => some .cSeTa1
  | 62 => some .cSeTb1
  | 63 => some .cSeTc1
  | 64 => some .cBoTa1
  | 70 => some .mEiNa1
  | 100 => some .cIcNa1
  | 101 => some .cCiNa1
  | 102 => some .cRdNa1
  | 103 => some .cCsNa1
  | 104 => some .cTsNa1
  | 105 => some .cRpNa1
  | 106 => some .cCdNa1
  | 107 => some .cTsTa1
  | 110 => some .pMeNa1
  | 111 => some .pMeNb1
  | 112 => some .pMeNc1
  | 113 => some .pAcNa1
  | 120 => some .fFrNa1
  | 121 => some .fSrNa1
  | 122 => some .fScNa1
  | 123 => some .fLsNa1
  | 124 => some .fAfNa1
  | 125 => some .fSgNa1
  | 126 => some .fDrTa1
  | 127 => some .fScNb1
  | _ => none

/-- V_PSIZE (10_state.md R39): the payload size of one element, a number or VARIABLE. -/
inductive PSize where
  | fixed (n : Byte)
  | variable
deriving DecidableEq, Repr

/-- The payload size of a fixed-size standard type in octets (42_io_monitor.md R220), and 0 for type 125, whose
size is `4 + LOS` (30_encoding.md R109). -/
def TypeId.size : TypeId → Nat
  | .mSpNa1 => 1
  | .mSpTa1 => 4
  | .mDpNa1 => 1
  | .mDpTa1 => 4
  | .mStNa1 => 2
  | .mStTa1 => 5
  | .mBoNa1 => 5
  | .mBoTa1 => 8
  | .mMeNa1 => 3
  | .mMeTa1 => 6
  | .mMeNb1 => 3
  | .mMeTb1 => 6
  | .mMeNc1 => 5
  | .mMeTc1 => 8
  | .mItNa1 => 5
  | .mItTa1 => 8
  | .mEpTa1 => 6
  | .mEpTb1 => 7
  | .mEpTc1 => 7
  | .mPsNa1 => 5
  | .mMeNd1 => 2
  | .mSpTb1 => 8
  | .mDpTb1 => 8
  | .mStTb1 => 9
  | .mBoTb1 => 12
  | .mMeTd1 => 10
  | .mMeTe1 => 10
  | .mMeTf1 => 12
  | .mItTb1 => 12
  | .mEpTd1 => 10
  | .mEpTe1 => 11
  | .mEpTf1 => 11
  | .cScNa1 => 1
  | .cDcNa1 => 1
  | .cRcNa1 => 1
  | .cSeNa1 => 3
  | .cSeNb1 => 3
  | .cSeNc1 => 5
  | .cBoNa1 => 4
  | .cScTa1 => 8
  | .cDcTa1 => 8
  | .cRcTa1 => 8
  | .cSeTa1 => 10
  | .cSeTb1 => 10
  | .cSeTc1 => 12
  | .cBoTa1 => 11
  | .mEiNa1 => 1
  | .cIcNa1 => 1
  | .cCiNa1 => 1
  | .cRdNa1 => 0
  | .cCsNa1 => 7
  | .cTsNa1 => 2
  | .cRpNa1 => 1
  | .cCdNa1 => 2
  | .cTsTa1 => 9
  | .pMeNa1 => 3
  | .pMeNb1 => 3
  | .pMeNc1 => 5
  | .pAcNa1 => 1
  | .fFrNa1 => 6
  | .fSrNa1 => 7
  | .fScNa1 => 4
  | .fLsNa1 => 5
  | .fAfNa1 => 4
  | .fSgNa1 => 0
  | .fDrTa1 => 13
  | .fScNb1 => 16

/-- `S(t)` as V_PSIZE holds it (10_state.md R39). -/
def TypeId.psize (t : TypeId) : PSize :=
  match t with
  | .fSgNa1 => .variable
  | t => .fixed (BitVec.ofNat 8 t.size)

/-- `seq_ok(t)` (44_asdu_codec.md): the types that the builder accepts with SQ = 1 (42_io_monitor.md R220). -/
def TypeId.seqOk : TypeId → Bool
  | .mSpNa1 | .mDpNa1 | .mStNa1 | .mBoNa1 | .mMeNa1 | .mMeNb1 | .mMeNc1 | .mItNa1 | .mPsNa1
  | .mMeNd1 | .fDrTa1 => true
  | _ => false

/-- `ZERO_IOA` (44_asdu_codec.md): the type identifiers whose information object address must be 0. -/
def zeroIoaTypes : List Byte := [70#8, 100#8, 101#8, 103#8, 104#8, 105#8, 106#8, 107#8]

/-- The type identifier whose variant a body is; a body of raw octets has none. -/
def Body.typeId? : Body → Option TypeId
  | .mSpNa1 _ => some .mSpNa1
  | .mSpTa1 _ _ => some .mSpTa1
  | .mDpNa1 _ => some .mDpNa1
  | .mDpTa1 _ _ => some .mDpTa1
  | .mStNa1 _ _ => some .mStNa1
  | .mStTa1 _ _ _ => some .mStTa1
  | .mBoNa1 _ _ => some .mBoNa1
  | .mBoTa1 _ _ _ => some .mBoTa1
  | .mMeNa1 _ _ => some .mMeNa1
  | .mMeTa1 _ _ _ => some .mMeTa1
  | .mMeNb1 _ _ => some .mMeNb1
  | .mMeTb1 _ _ _ => some .mMeTb1
  | .mMeNc1 _ _ => some .mMeNc1
  | .mMeTc1 _ _ _ => some .mMeTc1
  | .mItNa1 _ => some .mItNa1
  | .mItTa1 _ _ => some .mItTa1
  | .mEpTa1 _ _ _ => some .mEpTa1
  | .mEpTb1 _ _ _ _ => some .mEpTb1
  | .mEpTc1 _ _ _ _ => some .mEpTc1
  | .mPsNa1 _ _ => some .mPsNa1
  | .mMeNd1 _ => some .mMeNd1
  | .mSpTb1 _ _ => some .mSpTb1
  | .mDpTb1 _ _ => some .mDpTb1
  | .mStTb1 _ _ _ => some .mStTb1
  | .mBoTb1 _ _ _ => some .mBoTb1
  | .mMeTd1 _ _ _ => some .mMeTd1
  | .mMeTe1 _ _ _ => some .mMeTe1
  | .mMeTf1 _ _ _ => some .mMeTf1
  | .mItTb1 _ _ => some .mItTb1
  | .mEpTd1 _ _ _ => some .mEpTd1
  | .mEpTe1 _ _ _ _ => some .mEpTe1
  | .mEpTf1 _ _ _ _ => some .mEpTf1
  | .cScNa1 _ => some .cScNa1
  | .cDcNa1 _ => some .cDcNa1
  | .cRcNa1 _ => some .cRcNa1
  | .cSeNa1 _ _ => some .cSeNa1
  | .cSeNb1 _ _ => some .cSeNb1
  | .cSeNc1 _ _ => some .cSeNc1
  | .cBoNa1 _ => some .cBoNa1
  | .cScTa1 _ _ => some .cScTa1
  | .cDcTa1 _ _ => some .cDcTa1
  | .cRcTa1 _ _ => some .cRcTa1
  | .cSeTa1 _ _ _ => some .cSeTa1
  | .cSeTb1 _ _ _ => some .cSeTb1
  | .cSeTc1 _ _ _ => some .cSeTc1
  | .cBoTa1 _ _ => some .cBoTa1
  | .mEiNa1 _ => some .mEiNa1
  | .cIcNa1 _ => some .cIcNa1
  | .cCiNa1 _ => some .cCiNa1
  | .cRdNa1 => some .cRdNa1
  | .cCsNa1 _ => some .cCsNa1
  | .cTsNa1 _ => some .cTsNa1
  | .cRpNa1 _ => some .cRpNa1
  | .cCdNa1 _ => some .cCdNa1
  | .cTsTa1 _ _ => some .cTsTa1
  | .pMeNa1 _ _ => some .pMeNa1
  | .pMeNb1 _ _ => some .pMeNb1
  | .pMeNc1 _ _ => some .pMeNc1
  | .pAcNa1 _ => some .pAcNa1
  | .fFrNa1 _ _ _ => some .fFrNa1
  | .fSrNa1 _ _ _ _ => some .fSrNa1
  | .fScNa1 _ _ _ => some .fScNa1
  | .fLsNa1 _ _ _ _ => some .fLsNa1
  | .fAfNa1 _ _ _ => some .fAfNa1
  | .fSgNa1 _ _ _ => some .fSgNa1
  | .fDrTa1 _ _ _ _ => some .fDrTa1
  | .fScNb1 _ _ _ => some .fScNb1
  | .raw _ => none

/-- `enc(io)` (44_asdu_codec.md): the payload octets of a body. The length octet LOS of type 125 is the length of
the segment (43_io_control_file.md R302), which the builder has checked to fit it. -/
def Body.enc : Body → List Byte
  | .mSpNa1 siq => siq.enc
  | .mSpTa1 siq time => siq.enc ++ time.enc
  | .mDpNa1 diq => diq.enc
  | .mDpTa1 diq time => diq.enc ++ time.enc
  | .mStNa1 vti qds => vti.enc ++ qds.enc
  | .mStTa1 vti qds time => vti.enc ++ qds.enc ++ time.enc
  | .mBoNa1 bsi qds => bsi.enc ++ qds.enc
  | .mBoTa1 bsi qds time => bsi.enc ++ qds.enc ++ time.enc
  | .mMeNa1 nva qds => nva.enc ++ qds.enc
  | .mMeTa1 nva qds time => nva.enc ++ qds.enc ++ time.enc
  | .mMeNb1 sva qds => sva.enc ++ qds.enc
  | .mMeTb1 sva qds time => sva.enc ++ qds.enc ++ time.enc
  | .mMeNc1 r32 qds => r32.enc ++ qds.enc
  | .mMeTc1 r32 qds time => r32.enc ++ qds.enc ++ time.enc
  | .mItNa1 bcr => bcr.enc
  | .mItTa1 bcr time => bcr.enc ++ time.enc
  | .mEpTa1 sep elapsed time => sep.enc ++ elapsed.enc ++ time.enc
  | .mEpTb1 spe qdp duration time => spe.enc ++ qdp.enc ++ duration.enc ++ time.enc
  | .mEpTc1 oci qdp optime time => oci.enc ++ qdp.enc ++ optime.enc ++ time.enc
  | .mPsNa1 scd qds => scd.enc ++ qds.enc
  | .mMeNd1 nva => nva.enc
  | .mSpTb1 siq time => siq.enc ++ time.enc
  | .mDpTb1 diq time => diq.enc ++ time.enc
  | .mStTb1 vti qds time => vti.enc ++ qds.enc ++ time.enc
  | .mBoTb1 bsi qds time => bsi.enc ++ qds.enc ++ time.enc
  | .mMeTd1 nva qds time => nva.enc ++ qds.enc ++ time.enc
  | .mMeTe1 sva qds time => sva.enc ++ qds.enc ++ time.enc
  | .mMeTf1 r32 qds time => r32.enc ++ qds.enc ++ time.enc
  | .mItTb1 bcr time => bcr.enc ++ time.enc
  | .mEpTd1 sep elapsed time => sep.enc ++ elapsed.enc ++ time.enc
  | .mEpTe1 spe qdp duration time => spe.enc ++ qdp.enc ++ duration.enc ++ time.enc
  | .mEpTf1 oci qdp optime time => oci.enc ++ qdp.enc ++ optime.enc ++ time.enc
  | .cScNa1 sco => sco.enc
  | .cDcNa1 dco => dco.enc
  | .cRcNa1 rco => rco.enc
  | .cSeNa1 nva qos => nva.enc ++ qos.enc
  | .cSeNb1 sva qos => sva.enc ++ qos.enc
  | .cSeNc1 r32 qos => r32.enc ++ qos.enc
  | .cBoNa1 bsi => bsi.enc
  | .cScTa1 sco time => sco.enc ++ time.enc
  | .cDcTa1 dco time => dco.enc ++ time.enc
  | .cRcTa1 rco time => rco.enc ++ time.enc
  | .cSeTa1 nva qos time => nva.enc ++ qos.enc ++ time.enc
  | .cSeTb1 sva qos time => sva.enc ++ qos.enc ++ time.enc
  | .cSeTc1 r32 qos time => r32.enc ++ qos.enc ++ time.enc
  | .cBoTa1 bsi time => bsi.enc ++ time.enc
  | .mEiNa1 coi => coi.enc
  | .cIcNa1 qoi => qoi.enc
  | .cCiNa1 qcc => qcc.enc
  | .cRdNa1 => []
  | .cCsNa1 time => time.enc
  | .cTsNa1 fbp => fbp.enc
  | .cRpNa1 qrp => qrp.enc
  | .cCdNa1 delay => delay.enc
  | .cTsTa1 tsc time => tsc.enc ++ time.enc
  | .pMeNa1 nva qpm => nva.enc ++ qpm.enc
  | .pMeNb1 sva qpm => sva.enc ++ qpm.enc
  | .pMeNc1 r32 qpm => r32.enc ++ qpm.enc
  | .pAcNa1 qpa => qpa.enc
  | .fFrNa1 nof lof frq => nof.enc ++ lof.enc ++ frq.enc
  | .fSrNa1 nof nos lof srq => nof.enc ++ nos.enc ++ lof.enc ++ srq.enc
  | .fScNa1 nof nos scq => nof.enc ++ nos.enc ++ scq.enc
  | .fLsNa1 nof nos lsq chs => nof.enc ++ nos.enc ++ lsq.enc ++ chs.enc
  | .fAfNa1 nof nos afq => nof.enc ++ nos.enc ++ afq.enc
  | .fSgNa1 nof nos seg => nof.enc ++ nos.enc ++ BitVec.ofNat 8 seg.length :: seg
  | .fDrTa1 nof lof sof time => nof.enc ++ lof.enc ++ sof.enc ++ time.enc
  | .fScNb1 nof start stop => nof.enc ++ start.enc ++ stop.enc
  | .raw octets => octets

/-- `dec(t, octets)` (44_asdu_codec.md) of a standard type: field by field, in the order of the type's rule. -/
def TypeId.decBody (t : TypeId) (os : List Byte) : Body :=
  match t with
  | .mSpNa1 => .mSpNa1 (SIQ.dec os)
  | .mSpTa1 => .mSpTa1 (SIQ.dec os) (CP24Time2a.dec (os.drop 1))
  | .mDpNa1 => .mDpNa1 (DIQ.dec os)
  | .mDpTa1 => .mDpTa1 (DIQ.dec os) (CP24Time2a.dec (os.drop 1))
  | .mStNa1 => .mStNa1 (VTI.dec os) (QDS.dec (os.drop 1))
  | .mStTa1 => .mStTa1 (VTI.dec os) (QDS.dec (os.drop 1)) (CP24Time2a.dec (os.drop 2))
  | .mBoNa1 => .mBoNa1 (BSI.dec os) (QDS.dec (os.drop 4))
  | .mBoTa1 => .mBoTa1 (BSI.dec os) (QDS.dec (os.drop 4)) (CP24Time2a.dec (os.drop 5))
  | .mMeNa1 => .mMeNa1 (NVA.dec os) (QDS.dec (os.drop 2))
  | .mMeTa1 => .mMeTa1 (NVA.dec os) (QDS.dec (os.drop 2)) (CP24Time2a.dec (os.drop 3))
  | .mMeNb1 => .mMeNb1 (SVA.dec os) (QDS.dec (os.drop 2))
  | .mMeTb1 => .mMeTb1 (SVA.dec os) (QDS.dec (os.drop 2)) (CP24Time2a.dec (os.drop 3))
  | .mMeNc1 => .mMeNc1 (R32.dec os) (QDS.dec (os.drop 4))
  | .mMeTc1 => .mMeTc1 (R32.dec os) (QDS.dec (os.drop 4)) (CP24Time2a.dec (os.drop 5))
  | .mItNa1 => .mItNa1 (BCR.dec os)
  | .mItTa1 => .mItTa1 (BCR.dec os) (CP24Time2a.dec (os.drop 5))
  | .mEpTa1 => .mEpTa1 (SEP.dec os) (CP16Time2a.dec (os.drop 1)) (CP24Time2a.dec (os.drop 3))
  | .mEpTb1 => .mEpTb1 (SPE.dec os) (QDP.dec (os.drop 1)) (CP16Time2a.dec (os.drop 2)) (CP24Time2a.dec (os.drop 4))
  | .mEpTc1 => .mEpTc1 (OCI.dec os) (QDP.dec (os.drop 1)) (CP16Time2a.dec (os.drop 2)) (CP24Time2a.dec (os.drop 4))
  | .mPsNa1 => .mPsNa1 (SCD.dec os) (QDS.dec (os.drop 4))
  | .mMeNd1 => .mMeNd1 (NVA.dec os)
  | .mSpTb1 => .mSpTb1 (SIQ.dec os) (CP56Time2a.dec (os.drop 1))
  | .mDpTb1 => .mDpTb1 (DIQ.dec os) (CP56Time2a.dec (os.drop 1))
  | .mStTb1 => .mStTb1 (VTI.dec os) (QDS.dec (os.drop 1)) (CP56Time2a.dec (os.drop 2))
  | .mBoTb1 => .mBoTb1 (BSI.dec os) (QDS.dec (os.drop 4)) (CP56Time2a.dec (os.drop 5))
  | .mMeTd1 => .mMeTd1 (NVA.dec os) (QDS.dec (os.drop 2)) (CP56Time2a.dec (os.drop 3))
  | .mMeTe1 => .mMeTe1 (SVA.dec os) (QDS.dec (os.drop 2)) (CP56Time2a.dec (os.drop 3))
  | .mMeTf1 => .mMeTf1 (R32.dec os) (QDS.dec (os.drop 4)) (CP56Time2a.dec (os.drop 5))
  | .mItTb1 => .mItTb1 (BCR.dec os) (CP56Time2a.dec (os.drop 5))
  | .mEpTd1 => .mEpTd1 (SEP.dec os) (CP16Time2a.dec (os.drop 1)) (CP56Time2a.dec (os.drop 3))
  | .mEpTe1 => .mEpTe1 (SPE.dec os) (QDP.dec (os.drop 1)) (CP16Time2a.dec (os.drop 2)) (CP56Time2a.dec (os.drop 4))
  | .mEpTf1 => .mEpTf1 (OCI.dec os) (QDP.dec (os.drop 1)) (CP16Time2a.dec (os.drop 2)) (CP56Time2a.dec (os.drop 4))
  | .cScNa1 => .cScNa1 (SCO.dec os)
  | .cDcNa1 => .cDcNa1 (DCO.dec os)
  | .cRcNa1 => .cRcNa1 (RCO.dec os)
  | .cSeNa1 => .cSeNa1 (NVA.dec os) (QOS.dec (os.drop 2))
  | .cSeNb1 => .cSeNb1 (SVA.dec os) (QOS.dec (os.drop 2))
  | .cSeNc1 => .cSeNc1 (R32.dec os) (QOS.dec (os.drop 4))
  | .cBoNa1 => .cBoNa1 (BSI.dec os)
  | .cScTa1 => .cScTa1 (SCO.dec os) (CP56Time2a.dec (os.drop 1))
  | .cDcTa1 => .cDcTa1 (DCO.dec os) (CP56Time2a.dec (os.drop 1))
  | .cRcTa1 => .cRcTa1 (RCO.dec os) (CP56Time2a.dec (os.drop 1))
  | .cSeTa1 => .cSeTa1 (NVA.dec os) (QOS.dec (os.drop 2)) (CP56Time2a.dec (os.drop 3))
  | .cSeTb1 => .cSeTb1 (SVA.dec os) (QOS.dec (os.drop 2)) (CP56Time2a.dec (os.drop 3))
  | .cSeTc1 => .cSeTc1 (R32.dec os) (QOS.dec (os.drop 4)) (CP56Time2a.dec (os.drop 5))
  | .cBoTa1 => .cBoTa1 (BSI.dec os) (CP56Time2a.dec (os.drop 4))
  | .mEiNa1 => .mEiNa1 (COI.dec os)
  | .cIcNa1 => .cIcNa1 (QOI.dec os)
  | .cCiNa1 => .cCiNa1 (QCC.dec os)
  | .cRdNa1 => .cRdNa1
  | .cCsNa1 => .cCsNa1 (CP56Time2a.dec os)
  | .cTsNa1 => .cTsNa1 (FBP.dec os)
  | .cRpNa1 => .cRpNa1 (QRP.dec os)
  | .cCdNa1 => .cCdNa1 (CP16Time2a.dec os)
  | .cTsTa1 => .cTsTa1 (TSC.dec os) (CP56Time2a.dec (os.drop 2))
  | .pMeNa1 => .pMeNa1 (NVA.dec os) (QPM.dec (os.drop 2))
  | .pMeNb1 => .pMeNb1 (SVA.dec os) (QPM.dec (os.drop 2))
  | .pMeNc1 => .pMeNc1 (R32.dec os) (QPM.dec (os.drop 4))
  | .pAcNa1 => .pAcNa1 (QPA.dec os)
  | .fFrNa1 => .fFrNa1 (NOF.dec os) (LOF.dec (os.drop 2)) (FRQ.dec (os.drop 5))
  | .fSrNa1 => .fSrNa1 (NOF.dec os) (NOS.dec (os.drop 2)) (LOF.dec (os.drop 3)) (SRQ.dec (os.drop 6))
  | .fScNa1 => .fScNa1 (NOF.dec os) (NOS.dec (os.drop 2)) (SCQ.dec (os.drop 3))
  | .fLsNa1 => .fLsNa1 (NOF.dec os) (NOS.dec (os.drop 2)) (LSQ.dec (os.drop 3)) (CHS.dec (os.drop 4))
  | .fAfNa1 => .fAfNa1 (NOF.dec os) (NOS.dec (os.drop 2)) (AFQ.dec (os.drop 3))
  | .fSgNa1 => .fSgNa1 (NOF.dec os) (NOS.dec (os.drop 2)) (slice os 4 (octet os 3).toNat)
  | .fDrTa1 => .fDrTa1 (NOF.dec os) (LOF.dec (os.drop 2)) (SOF.dec (os.drop 5)) (CP56Time2a.dec (os.drop 6))
  | .fScNb1 => .fScNb1 (NOF.dec os) (CP56Time2a.dec (os.drop 2)) (CP56Time2a.dec (os.drop 9))

/-- The fields of a fixed-size type's payload, from bit 0 of its octet 0 up (41_primitive_codecs.md R150). -/
def TypeId.fields : TypeId → List (Nat × Bool)
  | .mSpNa1 => SIQ.fields
  | .mSpTa1 => SIQ.fields ++ CP24Time2a.fields
  | .mDpNa1 => DIQ.fields
  | .mDpTa1 => DIQ.fields ++ CP24Time2a.fields
  | .mStNa1 => VTI.fields ++ QDS.fields
  | .mStTa1 => VTI.fields ++ QDS.fields ++ CP24Time2a.fields
  | .mBoNa1 => BSI.fields ++ QDS.fields
  | .mBoTa1 => BSI.fields ++ QDS.fields ++ CP24Time2a.fields
  | .mMeNa1 => NVA.fields ++ QDS.fields
  | .mMeTa1 => NVA.fields ++ QDS.fields ++ CP24Time2a.fields
  | .mMeNb1 => SVA.fields ++ QDS.fields
  | .mMeTb1 => SVA.fields ++ QDS.fields ++ CP24Time2a.fields
  | .mMeNc1 => R32.fields ++ QDS.fields
  | .mMeTc1 => R32.fields ++ QDS.fields ++ CP24Time2a.fields
  | .mItNa1 => BCR.fields
  | .mItTa1 => BCR.fields ++ CP24Time2a.fields
  | .mEpTa1 => SEP.fields ++ CP16Time2a.fields ++ CP24Time2a.fields
  | .mEpTb1 => SPE.fields ++ QDP.fields ++ CP16Time2a.fields ++ CP24Time2a.fields
  | .mEpTc1 => OCI.fields ++ QDP.fields ++ CP16Time2a.fields ++ CP24Time2a.fields
  | .mPsNa1 => SCD.fields ++ QDS.fields
  | .mMeNd1 => NVA.fields
  | .mSpTb1 => SIQ.fields ++ CP56Time2a.fields
  | .mDpTb1 => DIQ.fields ++ CP56Time2a.fields
  | .mStTb1 => VTI.fields ++ QDS.fields ++ CP56Time2a.fields
  | .mBoTb1 => BSI.fields ++ QDS.fields ++ CP56Time2a.fields
  | .mMeTd1 => NVA.fields ++ QDS.fields ++ CP56Time2a.fields
  | .mMeTe1 => SVA.fields ++ QDS.fields ++ CP56Time2a.fields
  | .mMeTf1 => R32.fields ++ QDS.fields ++ CP56Time2a.fields
  | .mItTb1 => BCR.fields ++ CP56Time2a.fields
  | .mEpTd1 => SEP.fields ++ CP16Time2a.fields ++ CP56Time2a.fields
  | .mEpTe1 => SPE.fields ++ QDP.fields ++ CP16Time2a.fields ++ CP56Time2a.fields
  | .mEpTf1 => OCI.fields ++ QDP.fields ++ CP16Time2a.fields ++ CP56Time2a.fields
  | .cScNa1 => SCO.fields
  | .cDcNa1 => DCO.fields
  | .cRcNa1 => RCO.fields
  | .cSeNa1 => NVA.fields ++ QOS.fields
  | .cSeNb1 => SVA.fields ++ QOS.fields
  | .cSeNc1 => R32.fields ++ QOS.fields
  | .cBoNa1 => BSI.fields
  | .cScTa1 => SCO.fields ++ CP56Time2a.fields
  | .cDcTa1 => DCO.fields ++ CP56Time2a.fields
  | .cRcTa1 => RCO.fields ++ CP56Time2a.fields
  | .cSeTa1 => NVA.fields ++ QOS.fields ++ CP56Time2a.fields
  | .cSeTb1 => SVA.fields ++ QOS.fields ++ CP56Time2a.fields
  | .cSeTc1 => R32.fields ++ QOS.fields ++ CP56Time2a.fields
  | .cBoTa1 => BSI.fields ++ CP56Time2a.fields
  | .mEiNa1 => COI.fields
  | .cIcNa1 => QOI.fields
  | .cCiNa1 => QCC.fields
  | .cRdNa1 => []
  | .cCsNa1 => CP56Time2a.fields
  | .cTsNa1 => FBP.fields
  | .cRpNa1 => QRP.fields
  | .cCdNa1 => CP16Time2a.fields
  | .cTsTa1 => TSC.fields ++ CP56Time2a.fields
  | .pMeNa1 => NVA.fields ++ QPM.fields
  | .pMeNb1 => SVA.fields ++ QPM.fields
  | .pMeNc1 => R32.fields ++ QPM.fields
  | .pAcNa1 => QPA.fields
  | .fFrNa1 => NOF.fields ++ LOF.fields ++ FRQ.fields
  | .fSrNa1 => NOF.fields ++ NOS.fields ++ LOF.fields ++ SRQ.fields
  | .fScNa1 => NOF.fields ++ NOS.fields ++ SCQ.fields
  | .fLsNa1 => NOF.fields ++ NOS.fields ++ LSQ.fields ++ CHS.fields
  | .fAfNa1 => NOF.fields ++ NOS.fields ++ AFQ.fields
  | .fSgNa1 => []
  | .fDrTa1 => NOF.fields ++ LOF.fields ++ SOF.fields ++ CP56Time2a.fields
  | .fScNb1 => NOF.fields ++ CP56Time2a.fields ++ CP56Time2a.fields

/-- The body whose fields have the given values, if every value fits its field and there are as many as fields
(44_asdu_codec.md R321 check 5). Type 125 has no such form: its body is given by `BodyOperand.seg`. -/
def TypeId.bodyOfValues? (t : TypeId) (values : List (BitVec 64)) : Option Body :=
  match t with
  | .fSgNa1 => none
  | t =>
    if fitsFields t.fields values then some (t.decBody (leOctets t.size (packFields t.fields values))) else none

end Sys2Proof
end

