-- ==== Sys2Proof/Machine/State.lean ====
section
/-! DEFINITION. The state of the block, unit by unit (10_state.md), the status codes (60_exceptions.md R500), the
faults and refusals of the model, and the state after reset (70_reset_and_hazards.md R543). State is plain data. -/

namespace Sys2Proof.Machine

/-! ## Values that registers hold -/

/-- The status codes (60_exceptions.md R500). -/
inductive Status where
  | ok
  | parsingError
  | unknownTypeId
  | typeMismatch
  | noSpace
  | seqAddress
  | seqNotSupported
  | countFull
  | fieldRange
  | noBuilder
  | rawConflict
  | noView
  | indexRange
  | ioaNotZero
  | operandRange
  | emptyAsdu
  | framingError
  | sequenceError
  | windowError
  | stateError
  | windowFull
  | apciFaulted
  | frameTooLong
  | notStarted
  | uUnexpected
  | noAsdu
  | ft12Framing
  | ft12Checksum
  | ft12TooLong
  | checksumMismatch
  | notConfigured
  | configError
  | unknownCommand
deriving DecidableEq, Repr

/-- F_KIND (10_state.md R42). -/
inductive FrameKind where
  | fixed
  | variable
  | single
deriving DecidableEq, Repr

/-- F_FCLASS (10_state.md R43): the function names of 45_ft12_link.md R370 to R395, RESERVED, and NONE, which the
single character gives (45_ft12_link.md R365). -/
inductive FClass where
  | resetRemoteLink
  | resetUserProcess
  | testLink
  | userDataConfirm
  | userDataNoReply
  | requestAccessDemand
  | requestLinkStatus
  | requestClass1
  | requestClass2
  | ack
  | nackBusy
  | userData
  | nackNoData
  | linkStatus
  | linkNotFunctioning
  | linkNotImplemented
  | reserved
  | none
deriving DecidableEq, Repr

/-- A_STATE (10_state.md R47). -/
inductive AState where
  | stopped
  | started
  | unconfirmedStopped
  | faulted
deriving DecidableEq, Repr

/-- A_KIND (10_state.md R53). -/
inductive AKind where
  | i
  | s
  | u
  | none
deriving DecidableEq, Repr

/-- One entry of WIN (10_state.md R48). -/
structure WinEntry where
  seq : SeqNo
  tag : Tag
deriving DecidableEq, Repr

/-! ## The units -/

/-- The builder, B_* (10_state.md R35 to R37). `type` is B_TYPE, `none` its value NONE. -/
structure Builder where
  active   : Bool
  sq       : Bool
  t        : Bool
  pn       : Bool
  cot      : BitVec 6
  oa       : Byte
  ca       : BitVec 16
  type     : Option Byte
  raw      : Bool
  count    : BitVec 7
  firstIoa : Ioa
  len      : Byte
deriving DecidableEq, Repr

/-- The header fields of a view (10_state.md R40). -/
structure Header where
  type  : Byte
  sq    : Bool
  count : BitVec 7
  t     : Bool
  pn    : Bool
  cot   : BitVec 6
  oa    : Byte
  ca    : BitVec 16
deriving DecidableEq, Repr

/-- The decoded view, V_* (10_state.md R39, R40). -/
structure View where
  valid : Bool
  known : Bool
  off   : BitVec 16
  len   : BitVec 16
  psize : PSize
  hdr   : Header
deriving DecidableEq, Repr

/-- The decoded element, E_* (10_state.md R41). -/
structure Element where
  valid : Bool
  index : BitVec 7
  io    : IO
deriving DecidableEq, Repr

/-- The FT1.2 decode registers, F_* (10_state.md R42, R43). -/
structure LinkRx where
  valid  : Bool
  kind   : FrameKind
  c      : Byte
  a      : BitVec 16
  udOff  : BitVec 16
  udLen  : Byte
  b7     : BitVec 1
  prm    : BitVec 1
  b5     : BitVec 1
  b4     : BitVec 1
  fc     : BitVec 4
  fclass : FClass
deriving DecidableEq, Repr

/-- The receive-result registers of the APCI unit, A_* (10_state.md R53) but for A_STATE. `ufn` is A_UFN, `none` its
value NONE. -/
structure ApciRx where
  kind       : AKind
  ns         : SeqNo
  nr         : SeqNo
  ufn        : Option Ufn
  asduOff    : BitVec 16
  asduLen    : Byte
  retired    : SeqNo
  retiredTag : Tag
deriving DecidableEq, Repr

/-- The APCI unit (10_state.md R45 to R53). `win` has K entries once a configuration gives K. -/
structure Apci where
  vs              : SeqNo
  vr              : SeqNo
  state           : AState
  win             : List WinEntry
  winOldest       : Nat
  winCount        : Nat
  unackRx         : SeqNo
  startdtPending  : Bool
  stopdtPending   : Bool
  testOutstanding : Bool
  respStartdtCon  : Bool
  respStopdtCon   : Bool
  respTestfrCon   : Bool
  rx              : ApciRx
deriving DecidableEq, Repr

/-- The checksum unit (10_state.md R54): CHK_SECTION and CHK_FILE. -/
structure Chk where
  sect : Byte
  file : Byte
deriving DecidableEq, Repr

/-! ## Buffers -/

/-- The contents of one buffer (20_memory.md R70): the octets that are not 0, addresses strictly rising. An address
that is not listed reads as 0: DESIGN CHOICE, unsafe, log entry 8. -/
abbrev Mem := List Host.Cell

/-! ## The host -/

/-- The registers that a host write has no effect on (10_state.md R56): every register but ASDU_LEN. -/
inductive Reg where
  | config
  | status
  | statusInfo
  | bActive
  | bSq
  | bT
  | bPn
  | bCot
  | bOa
  | bCa
  | bType
  | bRaw
  | bCount
  | bFirstIoa
  | bLen
  | vValid
  | vKnown
  | vOff
  | vLen
  | vPsize
  | vType
  | vSq
  | vCount
  | vT
  | vPn
  | vCot
  | vOa
  | vCa
  | eValid
  | eIndex
  | eIo
  | fValid
  | fKind
  | fC
  | fA
  | fUdOff
  | fUdLen
  | fB7
  | fPrm
  | fB5
  | fB4
  | fFc
  | fFclass
  | txLen
  | vs
  | vr
  | aState
  | win
  | winOldest
  | winCount
  | unackRx
  | startdtPending
  | stopdtPending
  | testOutstanding
  | respStartdtCon
  | respStopdtCon
  | respTestfrCon
  | sRequired
  | aKind
  | aNs
  | aNr
  | aUfn
  | aAsduOff
  | aAsduLen
  | aRetired
  | aRetiredTag
  | chkSection
  | chkFile
deriving DecidableEq, Repr

/-- What the host does between two commands, or the command it presents (00_scope.md R5; log entry 9). -/
inductive HostAction where
  /-- It presents the octets of an instruction of an encoding space (30_encoding.md R100; log entry 1). -/
  | present (space : Space) (octets : List Byte)
  /-- It writes octets into a buffer (20_memory.md R74 to R76). -/
  | writeBuf (buf : Buf) (addr : BitVec 16) (octets : List Byte)
  /-- It writes ASDU_LEN (10_state.md R38, 20_memory.md R75). -/
  | writeAsduLen (v : Byte)
  /-- It writes another register, which has no effect (10_state.md R56). -/
  | writeReg (r : Reg) (v : BitVec 64)
deriving DecidableEq, Repr

/-! ## The state -/

/-- The whole state of the block, and `input`, the model's own field: what the host will do next (log entry 9). -/
structure State where
  config     : Option Config
  status     : Byte
  statusInfo : BitVec 16
  builder    : Builder
  asduLen    : Byte
  view       : View
  elem       : Element
  link       : LinkRx
  txLen      : BitVec 16
  apci       : Apci
  chk        : Chk
  rxbuf      : Mem
  txbuf      : Mem
  abuf       : Mem
  input      : List HostAction
deriving DecidableEq, Repr

/-! ## Stops -/

/-- The reasons the model stops with a fault. -/
inductive Fault where
  /-- A buffer octet that does not exist (20_memory.md R70): raised by a host write outside the buffer, and by a
  command's access outside it, which no state that a run reaches makes. Safe: log entry 13. -/
  | outsideBuffer (buf : Buf) (addr : Nat)
  /-- NVA_FROM_REAL of a NaN ("NaN has no result; the model faults", 41_primitive_codecs.md R194). Raised by the
  host conversion only, by no step. Safe: log entry 19. -/
  | notANumber
deriving DecidableEq, Repr

/-- The reasons the model refuses. -/
inductive Refusal where
  /-- An instruction that has no meaning yet. Raised by an arm of `exec`. Safe. -/
  | notModelled (mnemonic : String)
  /-- The octets that the host presents stand for no operation of the space with typed operands (30_encoding.md R100,
  R103), and in the command space their first octet is an assigned opcode or there is none. Raised by `step`. Safe: log entry 14. -/
  | malformed (space : Space)
deriving DecidableEq, Repr

/-- What an instruction answers. -/
abbrev Out := Host.Outcome State Fault Refusal

/-! ## Reset values (70_reset_and_hazards.md R543) -/

/-- The TAG of a register that R543 leaves unspecified: DESIGN CHOICE, log entries 6 and 7. -/
def Tag.zero : Tag := { qidx := 0#16, ts := 0#64 }

/-- A window entry of a ring that R543 leaves unspecified: DESIGN CHOICE, log entry 6. -/
def WinEntry.zero : WinEntry := { seq := 0#15, tag := Tag.zero }

/-- The builder after RESET (10_state.md R35 to R37). -/
def Builder.reset : Builder :=
  { active := false, sq := false, t := false, pn := false, cot := 0#6, oa := 0#8, ca := 0#16, type := none,
    raw := false, count := 0#7, firstIoa := 0#24, len := 0#8 }

/-- The view after RESET (10_state.md R39, R40). -/
def View.reset : View :=
  { valid := false, known := false, off := 0#16, len := 0#16, psize := .fixed 0#8,
    hdr := { type := 0#8, sq := false, count := 0#7, t := false, pn := false, cot := 0#6, oa := 0#8, ca := 0#16 } }

/-- The element after RESET (10_state.md R41). E_IO is unspecified there: DESIGN CHOICE, log entry 5. -/
def Element.reset : Element :=
  { valid := false, index := 0#7, io := { type := 0#8, ioa := 0#24, body := .raw [] } }

/-- The FT1.2 registers after RESET (10_state.md R42, R43). -/
def LinkRx.reset : LinkRx :=
  { valid := false, kind := .single, c := 0#8, a := 0#16, udOff := 0#16, udLen := 0#8, b7 := 0#1, prm := 0#1,
    b5 := 0#1, b4 := 0#1, fc := 0#4, fclass := .reserved }

/-- The receive-result registers after RESET (10_state.md R53). A_RETIRED_TAG is unspecified there: DESIGN CHOICE,
log entry 7. -/
def ApciRx.reset : ApciRx :=
  { kind := .none, ns := 0#15, nr := 0#15, ufn := none, asduOff := 0#16, asduLen := 0#8, retired := 0#15,
    retiredTag := Tag.zero }

/-- The APCI unit after RESET (10_state.md R45 to R53), with no window ring. -/
def Apci.reset : Apci :=
  { vs := 0#15, vr := 0#15, state := .stopped, win := [], winOldest := 0, winCount := 0, unackRx := 0#15,
    startdtPending := false, stopdtPending := false, testOutstanding := false, respStartdtCon := false,
    respStopdtCon := false, respTestfrCon := false, rx := ApciRx.reset }

/-- The checksum unit after RESET (10_state.md R54). -/
def Chk.reset : Chk := { sect := 0#8, file := 0#8 }

/-- The block right after power-on, before any command (70_reset_and_hazards.md R544): no configuration. Every
register has the value that RESET gives it, and every buffer octet reads as 0: DESIGN CHOICE, log entries 4 to 8. -/
def State.reset : State :=
  { config := none, status := 0x00#8, statusInfo := 0#16, builder := Builder.reset, asduLen := 0#8,
    view := View.reset, elem := Element.reset, link := LinkRx.reset, txLen := 0#16, apci := Apci.reset,
    chk := Chk.reset, rxbuf := [], txbuf := [], abuf := [], input := [] }

end Sys2Proof.Machine
end

