-- ==== Sys2Proof/Machine/Flags.lean ====
section
/-! DEFINITION. Codes, flags and bit fields: the status codes and their classes (60_exceptions.md R500, R502), the
octets that carry flags (30_encoding.md R105, R106, 45_ft12_link.md R361), the function codes of FT1.2
(45_ft12_link.md R370 to R396), the classification of an APDU (46_apci.md R411), and sequence numbers in octets
(46_apci.md R412, R413). The block has no condition codes (10_state.md R55). -/

namespace Sys2Proof.Machine

/-! ## Status codes -/

/-- The code of a status (60_exceptions.md R500). -/
def Status.code : Status → Byte
  | .ok => 0x00#8
  | .parsingError => 0x01#8
  | .unknownTypeId => 0x02#8
  | .typeMismatch => 0x03#8
  | .noSpace => 0x04#8
  | .seqAddress => 0x05#8
  | .seqNotSupported => 0x06#8
  | .countFull => 0x07#8
  | .fieldRange => 0x08#8
  | .noBuilder => 0x09#8
  | .rawConflict => 0x0A#8
  | .noView => 0x0B#8
  | .indexRange => 0x0C#8
  | .ioaNotZero => 0x0D#8
  | .operandRange => 0x0E#8
  | .emptyAsdu => 0x0F#8
  | .framingError => 0x10#8
  | .sequenceError => 0x11#8
  | .windowError => 0x12#8
  | .stateError => 0x13#8
  | .windowFull => 0x14#8
  | .apciFaulted => 0x15#8
  | .frameTooLong => 0x16#8
  | .notStarted => 0x17#8
  | .uUnexpected => 0x18#8
  | .noAsdu => 0x19#8
  | .ft12Framing => 0x20#8
  | .ft12Checksum => 0x21#8
  | .ft12TooLong => 0x22#8
  | .checksumMismatch => 0x30#8
  | .notConfigured => 0xFD#8
  | .configError => 0xFE#8
  | .unknownCommand => 0xFF#8

/-- Every status of 60_exceptions.md R500, in the order of its table. -/
def Status.all : List Status :=
  [.ok, .parsingError, .unknownTypeId, .typeMismatch, .noSpace, .seqAddress, .seqNotSupported, .countFull,
   .fieldRange, .noBuilder, .rawConflict, .noView, .indexRange, .ioaNotZero, .operandRange, .emptyAsdu,
   .framingError, .sequenceError, .windowError, .stateError, .windowFull, .apciFaulted, .frameTooLong, .notStarted,
   .uUnexpected, .noAsdu, .ft12Framing, .ft12Checksum, .ft12TooLong, .checksumMismatch, .notConfigured,
   .configError, .unknownCommand]

/-- The fatal statuses (60_exceptions.md R502): the four of APCI_RECEIVE that also set A_STATE to FAULTED. -/
def Status.fatal : Status → Bool
  | .framingError | .sequenceError | .windowError | .stateError => true
  | _ => false

/-! ## Octets that carry flags -/

/-- The VSQ octet `{SQ, N}` (30_encoding.md R105). -/
def vsqOctet (sq : Bool) (count : BitVec 7) : Byte := bit sq ++ count

/-- SQ of a VSQ octet (30_encoding.md R105). -/
def vsqSq (b : Byte) : Bool := b.getLsbD 7

/-- N of a VSQ octet (30_encoding.md R105). -/
def vsqCount (b : Byte) : BitVec 7 := b.extractLsb' 0 7

/-- The cause octet `{T, PN, CAUSE}` (30_encoding.md R106). -/
def causeOctet (t pn : Bool) (cause : BitVec 6) : Byte := bit t ++ bit pn ++ cause

/-- T of a cause octet (30_encoding.md R106). -/
def causeT (b : Byte) : Bool := b.getLsbD 7

/-- PN of a cause octet (30_encoding.md R106). -/
def causePn (b : Byte) : Bool := b.getLsbD 6

/-- CAUSE of a cause octet (30_encoding.md R106). -/
def causeCause (b : Byte) : BitVec 6 := b.extractLsb' 0 6

/-- The FT1.2 control octet from its fields (45_ft12_link.md R361): bit 7, PRM, bit 5, bit 4, function code. -/
def ctlOctet (b7 prm b5 b4 : BitVec 1) (fc : BitVec 4) : Byte := b7 ++ prm ++ b5 ++ b4 ++ fc

/-! ## FT1.2 function codes -/

/-- The frame a function code normally uses (45_ft12_link.md section 3). -/
inductive FcFrame where
  | fixed
  | variable
  | fixedOrSingle
deriving DecidableEq, Repr

/-- The service of a function code, as its rule names it (45_ft12_link.md section 3). -/
inductive FcService where
  | sendConfirm
  | sendNoReply
  | requestRespond
  | confirm
  | respond
  | notNamed
deriving DecidableEq, Repr

/-- One rule of 45_ft12_link.md R370 to R395. `fcv` is the FCV that the rule gives, `replies` the function codes of
the replies it expects. The block reports the name and acts on nothing else (R365). -/
structure FcRow where
  mode    : LinkMode
  prm     : BitVec 1
  fc      : BitVec 4
  name    : FClass
  service : FcService
  fcv     : Option Bool
  frame   : FcFrame
  replies : List (BitVec 4)
deriving DecidableEq, Repr

/-- 45_ft12_link.md R370 to R395, one row a rule, in their order. -/
def fcTable : List FcRow :=
  [⟨.unbalanced, 1#1, 0#4, .resetRemoteLink, .sendConfirm, some false, .fixed, [0#4, 1#4]⟩,
   ⟨.unbalanced, 1#1, 1#4, .resetUserProcess, .sendConfirm, some false, .fixed, [0#4, 1#4]⟩,
   ⟨.unbalanced, 1#1, 3#4, .userDataConfirm, .sendConfirm, some true, .variable, [0#4, 1#4]⟩,
   ⟨.unbalanced, 1#1, 4#4, .userDataNoReply, .sendNoReply, some false, .variable, []⟩,
   ⟨.unbalanced, 1#1, 8#4, .requestAccessDemand, .requestRespond, some false, .fixed, [11#4]⟩,
   ⟨.unbalanced, 1#1, 9#4, .requestLinkStatus, .requestRespond, some false, .fixed, [11#4]⟩,
   ⟨.unbalanced, 1#1, 10#4, .requestClass1, .requestRespond, some true, .fixed, [8#4, 9#4]⟩,
   ⟨.unbalanced, 1#1, 11#4, .requestClass2, .requestRespond, some true, .fixed, [8#4, 9#4]⟩,
   ⟨.balanced, 1#1, 0#4, .resetRemoteLink, .sendConfirm, some false, .fixed, [0#4, 1#4]⟩,
   ⟨.balanced, 1#1, 1#4, .resetUserProcess, .sendConfirm, some false, .fixed, []⟩,
   ⟨.balanced, 1#1, 2#4, .testLink, .sendConfirm, some true, .fixed, [0#4, 1#4]⟩,
   ⟨.balanced, 1#1, 3#4, .userDataConfirm, .sendConfirm, some true, .variable, [0#4, 1#4]⟩,
   ⟨.balanced, 1#1, 4#4, .userDataNoReply, .sendNoReply, some false, .variable, []⟩,
   ⟨.balanced, 1#1, 9#4, .requestLinkStatus, .requestRespond, some false, .fixed, [11#4]⟩,
   ⟨.unbalanced, 0#1, 0#4, .ack, .confirm, none, .fixedOrSingle, []⟩,
   ⟨.unbalanced, 0#1, 1#4, .nackBusy, .confirm, none, .fixed, []⟩,
   ⟨.unbalanced, 0#1, 8#4, .userData, .respond, none, .variable, []⟩,
   ⟨.unbalanced, 0#1, 9#4, .nackNoData, .respond, none, .fixedOrSingle, []⟩,
   ⟨.unbalanced, 0#1, 11#4, .linkStatus, .respond, none, .fixed, []⟩,
   ⟨.unbalanced, 0#1, 14#4, .linkNotFunctioning, .notNamed, none, .fixed, []⟩,
   ⟨.unbalanced, 0#1, 15#4, .linkNotImplemented, .notNamed, none, .fixed, []⟩,
   ⟨.balanced, 0#1, 0#4, .ack, .notNamed, none, .fixedOrSingle, []⟩,
   ⟨.balanced, 0#1, 1#4, .nackBusy, .notNamed, none, .fixed, []⟩,
   ⟨.balanced, 0#1, 11#4, .linkStatus, .notNamed, none, .fixed, []⟩,
   ⟨.balanced, 0#1, 14#4, .linkNotFunctioning, .notNamed, none, .fixed, []⟩,
   ⟨.balanced, 0#1, 15#4, .linkNotImplemented, .notNamed, none, .fixed, []⟩]

/-- The name that a table gives a mode, a direction and a code; RESERVED where it has no row. -/
def fclassIn : List FcRow → LinkMode → BitVec 1 → BitVec 4 → FClass
  | [], _, _, _ => .reserved
  | r :: rs, mode, prm, fc => if r.mode = mode ∧ r.prm = prm ∧ r.fc = fc then r.name else fclassIn rs mode prm fc

/-- `fclass(mode, prm, fc)` (45_ft12_link.md R396). -/
def fclass (mode : LinkMode) (prm : BitVec 1) (fc : BitVec 4) : FClass := fclassIn fcTable mode prm fc

/-! ## APDU control octets -/

/-- The ctrl1 octet of a U-frame function (30_encoding.md R111). -/
def ufnCode : Ufn → Byte
  | .startdtAct => 0x07#8
  | .startdtCon => 0x0B#8
  | .stopdtAct => 0x13#8
  | .stopdtCon => 0x23#8
  | .testfrAct => 0x43#8
  | .testfrCon => 0x83#8

/-- The U-frame function of a ctrl1 octet, if it is one (30_encoding.md R111). -/
def ufnOfCode? (ctrl1 : Byte) : Option Ufn :=
  if ctrl1 = 0x07#8 then some .startdtAct
  else if ctrl1 = 0x0B#8 then some .startdtCon
  else if ctrl1 = 0x13#8 then some .stopdtAct
  else if ctrl1 = 0x23#8 then some .stopdtCon
  else if ctrl1 = 0x43#8 then some .testfrAct
  else if ctrl1 = 0x83#8 then some .testfrCon
  else none

/-- The formats of an APDU (46_apci.md R411). -/
inductive ApduFormat where
  | i
  | s
  | u (fn : Ufn)
  | none
deriving DecidableEq, Repr

/-- The classification by ctrl1 (46_apci.md R411), in the order of the rule. -/
def classify (ctrl1 : Byte) : ApduFormat :=
  if ctrl1.getLsbD 0 = false then .i
  else if ctrl1 = 0x01#8 then .s
  else match ufnOfCode? ctrl1 with
    | some fn => .u fn
    | Option.none => .none

/-- A sequence number from its two octets, low one first: `{high, low[7:1]}` (46_apci.md R412). -/
def seqOf (lo hi : Byte) : SeqNo := hi ++ lo.extractLsb' 1 7

/-- The octet `(n mod 128)·2` of a sequence number (46_apci.md R413). -/
def seqLo (n : SeqNo) : Byte := n.extractLsb' 0 7 ++ 0#1

/-- The octet `n div 128` of a sequence number (46_apci.md R413). -/
def seqHi (n : SeqNo) : Byte := n.extractLsb' 7 8

/-- UNACK_RX + 1, stuck at 32767 (10_state.md R49, 46_apci.md R418). -/
def incSaturating (n : SeqNo) : SeqNo := if n = 32767#15 then n else n + 1#15

/-! ## Causes of transmission -/

/-- The names of 44_asdu_codec.md R327. The block neither checks nor interprets a cause. -/
inductive CauseName where
  | notUsed
  | periodic
  | backgroundScan
  | spontaneous
  | initialised
  | request
  | activation
  | activationCon
  | deactivation
  | deactivationCon
  | activationTermination
  | returnRemote
  | returnLocal
  | fileTransfer
  | interrogatedStation
  | interrogatedGroup (n : Nat)
  | counterGeneral
  | counterGroup (n : Nat)
  | unknownTypeId
  | unknownCause
  | unknownCommonAddress
  | unknownInformationObjectAddress
  | reserved
deriving DecidableEq, Repr

/-- The name of a cause value (44_asdu_codec.md R327). -/
def causeName (cause : BitVec 6) : CauseName :=
  match cause.toNat with
  | 0 => .notUsed
  | 1 => .periodic
  | 2 => .backgroundScan
  | 3 => .spontaneous
  | 4 => .initialised
  | 5 => .request
  | 6 => .activation
  | 7 => .activationCon
  | 8 => .deactivation
  | 9 => .deactivationCon
  | 10 => .activationTermination
  | 11 => .returnRemote
  | 12 => .returnLocal
  | 13 => .fileTransfer
  | 20 => .interrogatedStation
  | 37 => .counterGeneral
  | 44 => .unknownTypeId
  | 45 => .unknownCause
  | 46 => .unknownCommonAddress
  | 47 => .unknownInformationObjectAddress
  | n =>
    if 21 ≤ n ∧ n ≤ 36 then .interrogatedGroup (n - 20)
    else if 38 ≤ n ∧ n ≤ 41 then .counterGroup (n - 37)
    else .reserved

end Sys2Proof.Machine
end

