-- ==== Sys2Proof/WellFormed.lean ====
section
/-! DEFINITION. Well-formed instructions: the bounds that the types of the operands do not say. An operand of
30_encoding.md R103 is never wider than its type; a value that only the command's own check bounds is no matter of
well-formedness. -/

namespace Sys2Proof

/-- The keys of PRIVATE_TYPES strictly rising from `lo` on: one list for each partial function (00_scope.md R18;
log entry 16). -/
def risingFrom : Nat → List PrivateType → Bool
  | _, [] => true
  | lo, p :: ps => decide (lo ≤ p.typeId.toNat) && risingFrom (p.typeId.toNat + 1) ps

/-- A CONFIG operand is a record of values (30_encoding.md R103); its private types are a partial function on octets. -/
def ConfigOperand.wf (o : ConfigOperand) : Bool := decide (o.privateTypes.length ≤ 255) && risingFrom 0 o.privateTypes

/-- The body of an ASDU_ADD_IO operand: a record of a fixed-size variant has a value for each field of it, and octet
strings have lengths that the port's length field holds (log entries 1 and 11). -/
def BodyOperand.wf : BodyOperand → Bool
  | .raw octets => decide (octets.length < 65536)
  | .std variant values => decide (variant ≠ .fSgNa1) && decide (values.length = variant.fields.length)
  | .seg _ _ segment => decide (segment.length < 65536)

/-- The octets that follow the control octets of a presented APDU: the length octet counts them and the four control
octets (30_encoding.md R110). -/
def tailFits (tail : List Byte) : Bool := decide (tail.length ≤ 251)

/-- The octets that follow the start octet of a presented FT1.2 frame: a frame fits RXBUF (20_memory.md R70). -/
def frameTailFits (tail : List Byte) : Bool := decide (tail.length ≤ 260)

/-- The link address octets of a presented FT1.2 frame (00_scope.md R13). -/
def addrFits (addr : List Byte) : Bool := decide (addr.length ≤ 2)

/-- Link address and user data of a presented variable frame: its octet L counts C, A and UD (45_ft12_link.md R360). -/
def udFits (addr ud : List Byte) : Bool := addrFits addr && decide (1 + addr.length + ud.length ≤ 255)

/-- Well-formed instructions. -/
def Instr.wf : Instr → Bool
  | .nop => true
  | .reset cfg => cfg.wf
  | .asduBegin _ _ _ _ _ _ => true
  | .asduAddIo io => io.body.wf
  | .asduSetRaw _ _ data => decide (data.length ≤ 255)
  | .asduEncode => true
  | .asduDecode _ _ => true
  | .asduGetElement _ => true
  | .asduRewriteCot _ _ => true
  | .ft12EncFixed _ _ => true
  | .ft12EncVar _ _ => true
  | .ft12EncSingle => true
  | .ft12Decode _ => true
  | .apciReceive _ => true
  | .apciSendI _ => true
  | .apciSendS => true
  | .apciSendU _ => true
  | .apciReset => true
  | .chkResetFile => true
  | .chkBeginSection => true
  | .chkAdd _ _ _ => true
  | .chkAddElement => true
  | .chkCheckSection _ => true
  | .chkCloseSection => true
  | .chkCheckFile _ => true
  | .mSpNa1 _ _ => true
  | .mSpTa1 _ _ _ => true
  | .mDpNa1 _ _ => true
  | .mDpTa1 _ _ _ => true
  | .mStNa1 _ _ _ => true
  | .mStTa1 _ _ _ _ => true
  | .mBoNa1 _ _ _ => true
  | .mBoTa1 _ _ _ _ => true
  | .mMeNa1 _ _ _ => true
  | .mMeTa1 _ _ _ _ => true
  | .mMeNb1 _ _ _ => true
  | .mMeTb1 _ _ _ _ => true
  | .mMeNc1 _ _ _ => true
  | .mMeTc1 _ _ _ _ => true
  | .mItNa1 _ _ => true
  | .mItTa1 _ _ _ => true
  | .mEpTa1 _ _ _ _ => true
  | .mEpTb1 _ _ _ _ _ => true
  | .mEpTc1 _ _ _ _ _ => true
  | .mPsNa1 _ _ _ => true
  | .mMeNd1 _ _ => true
  | .mSpTb1 _ _ _ => true
  | .mDpTb1 _ _ _ => true
  | .mStTb1 _ _ _ _ => true
  | .mBoTb1 _ _ _ _ => true
  | .mMeTd1 _ _ _ _ => true
  | .mMeTe1 _ _ _ _ => true
  | .mMeTf1 _ _ _ _ => true
  | .mItTb1 _ _ _ => true
  | .mEpTd1 _ _ _ _ => true
  | .mEpTe1 _ _ _ _ _ => true
  | .mEpTf1 _ _ _ _ _ => true
  | .cScNa1 _ _ => true
  | .cDcNa1 _ _ => true
  | .cRcNa1 _ _ => true
  | .cSeNa1 _ _ _ => true
  | .cSeNb1 _ _ _ => true
  | .cSeNc1 _ _ _ => true
  | .cBoNa1 _ _ => true
  | .cScTa1 _ _ _ => true
  | .cDcTa1 _ _ _ => true
  | .cRcTa1 _ _ _ => true
  | .cSeTa1 _ _ _ _ => true
  | .cSeTb1 _ _ _ _ => true
  | .cSeTc1 _ _ _ _ => true
  | .cBoTa1 _ _ _ => true
  | .mEiNa1 _ _ => true
  | .cIcNa1 _ _ => true
  | .cCiNa1 _ _ => true
  | .cRdNa1 _ => true
  | .cCsNa1 _ _ => true
  | .cTsNa1 _ _ => true
  | .cRpNa1 _ _ => true
  | .cCdNa1 _ _ => true
  | .cTsTa1 _ _ _ => true
  | .pMeNa1 _ _ _ => true
  | .pMeNb1 _ _ _ => true
  | .pMeNc1 _ _ _ => true
  | .pAcNa1 _ _ => true
  | .fFrNa1 _ _ _ _ => true
  | .fSrNa1 _ _ _ _ _ => true
  | .fScNa1 _ _ _ _ => true
  | .fLsNa1 _ _ _ _ _ => true
  | .fAfNa1 _ _ _ _ => true
  | .fSgNa1 _ _ _ seg => decide (seg.length ≤ 255)
  | .fDrTa1 _ _ _ _ _ => true
  | .fScNb1 _ _ _ _ => true
  | .iFrame _ _ _ _ tail => tailFits tail
  | .sFrame _ _ _ tail => tailFits tail
  | .uStartdtAct _ _ _ tail => tailFits tail
  | .uStartdtCon _ _ _ tail => tailFits tail
  | .uStopdtAct _ _ _ tail => tailFits tail
  | .uStopdtCon _ _ _ tail => tailFits tail
  | .uTestfrAct _ _ _ tail => tailFits tail
  | .uTestfrCon _ _ _ tail => tailFits tail
  | .ft12Fixed tail => frameTailFits tail
  | .ft12Variable tail => frameTailFits tail
  | .ft12Single tail => frameTailFits tail
  | .unbPriResetRemoteLink _ _ _ addr => addrFits addr
  | .unbPriResetUserProcess _ _ _ addr => addrFits addr
  | .unbPriUserDataConfirm _ _ _ addr ud => udFits addr ud
  | .unbPriUserDataNoReply _ _ _ addr ud => udFits addr ud
  | .unbPriRequestAccessDemand _ _ _ addr => addrFits addr
  | .unbPriRequestLinkStatus _ _ _ addr => addrFits addr
  | .unbPriRequestClass1 _ _ _ addr => addrFits addr
  | .unbPriRequestClass2 _ _ _ addr => addrFits addr
  | .balPriResetRemoteLink _ _ _ addr => addrFits addr
  | .balPriResetUserProcess _ _ _ addr => addrFits addr
  | .balPriTestLink _ _ _ addr => addrFits addr
  | .balPriUserDataConfirm _ _ _ addr ud => udFits addr ud
  | .balPriUserDataNoReply _ _ _ addr ud => udFits addr ud
  | .balPriRequestLinkStatus _ _ _ addr => addrFits addr
  | .unbSecAck _ _ _ addr => addrFits addr
  | .unbSecNackBusy _ _ _ addr => addrFits addr
  | .unbSecUserData _ _ _ addr ud => udFits addr ud
  | .unbSecNackNoData _ _ _ addr => addrFits addr
  | .unbSecLinkStatus _ _ _ addr => addrFits addr
  | .unbSecLinkNotFunctioning _ _ _ addr => addrFits addr
  | .unbSecLinkNotImplemented _ _ _ addr => addrFits addr
  | .balSecAck _ _ _ addr => addrFits addr
  | .balSecNackBusy _ _ _ addr => addrFits addr
  | .balSecLinkStatus _ _ _ addr => addrFits addr
  | .balSecLinkNotFunctioning _ _ _ addr => addrFits addr
  | .balSecLinkNotImplemented _ _ _ addr => addrFits addr

end Sys2Proof
end

