-- ==== Sys2Proof/Decode.lean ====
section
/-! DEFINITION. The decoder and the encoder. The octets of each space are the model's own (30_encoding.md R100: "operands
are typed values, not packed bits"): log entries 1 and 3. The first octet of a presentation is the row's octet of
spec/opcode_table.json; the operands follow, every number little-endian. -/

namespace Sys2Proof

/-- Why the octets of a presentation decode to no instruction. -/
inductive DecodeError where
  /-- There are no octets. -/
  | noOctets
  /-- The first octet is no row's of the space. -/
  | unassigned (first : Byte)
  /-- The first octet is a row's, and what follows it is no operands of the row. -/
  | malformed
deriving DecidableEq, Repr

/-! ## Reading operands: a value from the front of the octets, and the octets after it -/

/-- `n` octets. -/
def readOctets (n : Nat) (os : List Byte) : Option (List Byte × List Byte) :=
  if n ≤ os.length then some (os.take n, os.drop n) else none

/-- A number of `n` octets. -/
def readNat (n : Nat) (os : List Byte) : Option (Nat × List Byte) := (readOctets n os).map fun p => (fromLE p.1, p.2)

/-- An octet. -/
def readByte (os : List Byte) : Option (Byte × List Byte) := (readNat 1 os).map fun p => (BitVec.ofNat 8 p.1, p.2)

/-- Two octets (UInt16 of 30_encoding.md R103). -/
def readU16 (os : List Byte) : Option (BitVec 16 × List Byte) := (readNat 2 os).map fun p => (BitVec.ofNat 16 p.1, p.2)

/-- A truth value: an octet 0 or 1. -/
def readBool (os : List Byte) : Option (Bool × List Byte) :=
  match readByte os with
  | some (b, os) => if b = 0#8 then some (false, os) else if b = 1#8 then some (true, os) else none
  | none => none

/-- A string whose length comes before it in `n` octets. -/
def readString (n : Nat) (os : List Byte) : Option (List Byte × List Byte) :=
  match readNat n os with
  | some (len, os) => readOctets len os
  | none => none

/-- `n` field values of eight octets each. -/
def readValues : Nat → List Byte → Option (List (BitVec 64) × List Byte)
  | 0, os => some ([], os)
  | n + 1, os =>
    match readNat 8 os with
    | some (v, os) => (readValues n os).map fun p => (BitVec.ofNat 64 v :: p.1, p.2)
    | none => none

/-- `n` entries of PRIVATE_TYPES: type identifier, size, sequence support. -/
def readPrivate : Nat → List Byte → Option (List PrivateType × List Byte)
  | 0, os => some ([], os)
  | n + 1, os => do
    let (t, os) ← readByte os
    let (size, os) ← readByte os
    let (seq, os) ← readBool os
    let (ps, os) ← readPrivate n os
    some (⟨t, size, seq⟩ :: ps, os)

/-- The CONFIG operand of RESET, in the order of 10_state.md R32. -/
def readConfig (os : List Byte) : Option (ConfigOperand × List Byte) := do
  let (cotLen, os) ← readByte os
  let (caLen, os) ← readByte os
  let (ioaLen, os) ← readByte os
  let (typeIdLen, os) ← readByte os
  let (maxAsduLen, os) ← readU16 os
  let (k, os) ← readU16 os
  let (w, os) ← readU16 os
  let (linkAddrLen, os) ← readByte os
  let (linkMode, os) ← readByte os
  let (apciRole, os) ← readByte os
  let (strictLength, os) ← readByte os
  let (fcsMode, os) ← readByte os
  let (n, os) ← readByte os
  let (privateTypes, os) ← readPrivate n.toNat os
  if risingFrom 0 privateTypes = true then
    some ({ cotLen, caLen, ioaLen, typeIdLen, maxAsduLen, k, w, linkAddrLen, linkMode, apciRole, strictLength,
            fcsMode, privateTypes }, os)
  else none

/-- The body of an ASDU_ADD_IO operand: a form octet, and the values of the form. -/
def readBody (os : List Byte) : Option (BodyOperand × List Byte) := do
  let (form, os) ← readByte os
  if form = 0#8 then
    let (octets, os) ← readString 2 os
    some (.raw octets, os)
  else if form = 1#8 then
    let (t, os) ← readByte os
    let variant ← TypeId.ofByte? t
    if variant = .fSgNa1 then none
    else
      let (values, os) ← readValues variant.fields.length os
      some (.std variant values, os)
  else if form = 2#8 then
    let (nof, os) ← readNat 8 os
    let (nos, os) ← readNat 8 os
    let (segment, os) ← readString 2 os
    some (.seg (BitVec.ofNat 64 nof) (BitVec.ofNat 64 nos) segment, os)
  else none

/-- A BUF operand (30_encoding.md R103): 0 RXBUF, 1 TXBUF, 2 ABUF. -/
def readBuf (os : List Byte) : Option (Buf × List Byte) :=
  match readByte os with
  | some (b, os) =>
    if b = 0#8 then some (.rxbuf, os) else if b = 1#8 then some (.txbuf, os)
    else if b = 2#8 then some (.abuf, os) else none
  | none => none

/-- The U-frame functions in the order of 30_encoding.md R111. -/
def ufnList : List Ufn := [.startdtAct, .startdtCon, .stopdtAct, .stopdtCon, .testfrAct, .testfrCon]

/-- A UFN operand (30_encoding.md R103): its place in the order of R111, from 0. -/
def readUfn (os : List Byte) : Option (Ufn × List Byte) :=
  match readByte os with
  | some (b, os) => (ufnList[b.toNat]?).map fun fn => (fn, os)
  | none => none

/-! ## The spaces -/

/-- The operands of a command (30_encoding.md R103), once its opcode is read (R101); nothing where an operand is
missing or is no value of its type. The outer `none` is an unassigned opcode (R102). -/
def readCommand (opcode : Byte) (os : List Byte) : Option (Option (Instr × List Byte)) :=
  match opcode.toNat with
  | 0x00 => some (some (.nop, os))
  | 0x01 => some do
    let (cfg, os) ← readConfig os
    some (.reset cfg, os)
  | 0x10 => some do
    let (sq, os) ← readBool os
    let (t, os) ← readBool os
    let (pn, os) ← readBool os
    let (cot, os) ← readByte os
    let (oa, os) ← readByte os
    let (ca, os) ← readU16 os
    some (.asduBegin sq t pn cot oa ca, os)
  | 0x11 => some do
    let (type, os) ← readByte os
    let (ioa, os) ← readNat 4 os
    let (body, os) ← readBody os
    some (.asduAddIo ⟨type, BitVec.ofNat 32 ioa, body⟩, os)
  | 0x12 => some do
    let (type, os) ← readByte os
    let (count, os) ← readByte os
    let (data, os) ← readString 1 os
    some (.asduSetRaw type count data, os)
  | 0x13 => some (some (.asduEncode, os))
  | 0x14 => some do
    let (off, os) ← readU16 os
    let (len, os) ← readU16 os
    some (.asduDecode off len, os)
  | 0x15 => some do
    let (idx, os) ← readByte os
    some (.asduGetElement idx, os)
  | 0x16 => some do
    let (cot, os) ← readByte os
    let (pn, os) ← readBool os
    some (.asduRewriteCot cot pn, os)
  | 0x20 => some do
    let (c, os) ← readByte os
    let (a, os) ← readU16 os
    some (.ft12EncFixed c a, os)
  | 0x21 => some do
    let (c, os) ← readByte os
    let (a, os) ← readU16 os
    some (.ft12EncVar c a, os)
  | 0x22 => some (some (.ft12EncSingle, os))
  | 0x23 => some do
    let (len, os) ← readU16 os
    some (.ft12Decode len, os)
  | 0x30 => some do
    let (len, os) ← readU16 os
    some (.apciReceive len, os)
  | 0x31 => some do
    let (qidx, os) ← readU16 os
    let (ts, os) ← readNat 8 os
    some (.apciSendI ⟨qidx, BitVec.ofNat 64 ts⟩, os)
  | 0x32 => some (some (.apciSendS, os))
  | 0x33 => some do
    let (fn, os) ← readUfn os
    some (.apciSendU fn, os)
  | 0x34 => some (some (.apciReset, os))
  | 0x40 => some (some (.chkResetFile, os))
  | 0x41 => some (some (.chkBeginSection, os))
  | 0x42 => some do
    let (buf, os) ← readBuf os
    let (off, os) ← readU16 os
    let (len, os) ← readU16 os
    some (.chkAdd buf off len, os)
  | 0x43 => some (some (.chkAddElement, os))
  | 0x44 => some do
    let (chs, os) ← readByte os
    some (.chkCheckSection chs, os)
  | 0x45 => some (some (.chkCloseSection, os))
  | 0x46 => some do
    let (chs, os) ← readByte os
    some (.chkCheckFile chs, os)
  | _ => none

/-- The instruction of a type row from an address and a body of a standard type. -/
def Instr.ofObject? (ioa : Ioa) : Body → Option Instr
  | .mSpNa1 siq => some (.mSpNa1 ioa siq)
  | .mSpTa1 siq time => some (.mSpTa1 ioa siq time)
  | .mDpNa1 diq => some (.mDpNa1 ioa diq)
  | .mDpTa1 diq time => some (.mDpTa1 ioa diq time)
  | .mStNa1 vti qds => some (.mStNa1 ioa vti qds)
  | .mStTa1 vti qds time => some (.mStTa1 ioa vti qds time)
  | .mBoNa1 bsi qds => some (.mBoNa1 ioa bsi qds)
  | .mBoTa1 bsi qds time => some (.mBoTa1 ioa bsi qds time)
  | .mMeNa1 nva qds => some (.mMeNa1 ioa nva qds)
  | .mMeTa1 nva qds time => some (.mMeTa1 ioa nva qds time)
  | .mMeNb1 sva qds => some (.mMeNb1 ioa sva qds)
  | .mMeTb1 sva qds time => some (.mMeTb1 ioa sva qds time)
  | .mMeNc1 r32 qds => some (.mMeNc1 ioa r32 qds)
  | .mMeTc1 r32 qds time => some (.mMeTc1 ioa r32 qds time)
  | .mItNa1 bcr => some (.mItNa1 ioa bcr)
  | .mItTa1 bcr time => some (.mItTa1 ioa bcr time)
  | .mEpTa1 sep elapsed time => some (.mEpTa1 ioa sep elapsed time)
  | .mEpTb1 spe qdp duration time => some (.mEpTb1 ioa spe qdp duration time)
  | .mEpTc1 oci qdp optime time => some (.mEpTc1 ioa oci qdp optime time)
  | .mPsNa1 scd qds => some (.mPsNa1 ioa scd qds)
  | .mMeNd1 nva => some (.mMeNd1 ioa nva)
  | .mSpTb1 siq time => some (.mSpTb1 ioa siq time)
  | .mDpTb1 diq time => some (.mDpTb1 ioa diq time)
  | .mStTb1 vti qds time => some (.mStTb1 ioa vti qds time)
  | .mBoTb1 bsi qds time => some (.mBoTb1 ioa bsi qds time)
  | .mMeTd1 nva qds time => some (.mMeTd1 ioa nva qds time)
  | .mMeTe1 sva qds time => some (.mMeTe1 ioa sva qds time)
  | .mMeTf1 r32 qds time => some (.mMeTf1 ioa r32 qds time)
  | .mItTb1 bcr time => some (.mItTb1 ioa bcr time)
  | .mEpTd1 sep elapsed time => some (.mEpTd1 ioa sep elapsed time)
  | .mEpTe1 spe qdp duration time => some (.mEpTe1 ioa spe qdp duration time)
  | .mEpTf1 oci qdp optime time => some (.mEpTf1 ioa oci qdp optime time)
  | .cScNa1 sco => some (.cScNa1 ioa sco)
  | .cDcNa1 dco => some (.cDcNa1 ioa dco)
  | .cRcNa1 rco => some (.cRcNa1 ioa rco)
  | .cSeNa1 nva qos => some (.cSeNa1 ioa nva qos)
  | .cSeNb1 sva qos => some (.cSeNb1 ioa sva qos)
  | .cSeNc1 r32 qos => some (.cSeNc1 ioa r32 qos)
  | .cBoNa1 bsi => some (.cBoNa1 ioa bsi)
  | .cScTa1 sco time => some (.cScTa1 ioa sco time)
  | .cDcTa1 dco time => some (.cDcTa1 ioa dco time)
  | .cRcTa1 rco time => some (.cRcTa1 ioa rco time)
  | .cSeTa1 nva qos time => some (.cSeTa1 ioa nva qos time)
  | .cSeTb1 sva qos time => some (.cSeTb1 ioa sva qos time)
  | .cSeTc1 r32 qos time => some (.cSeTc1 ioa r32 qos time)
  | .cBoTa1 bsi time => some (.cBoTa1 ioa bsi time)
  | .mEiNa1 coi => some (.mEiNa1 ioa coi)
  | .cIcNa1 qoi => some (.cIcNa1 ioa qoi)
  | .cCiNa1 qcc => some (.cCiNa1 ioa qcc)
  | .cRdNa1 => some (.cRdNa1 ioa)
  | .cCsNa1 time => some (.cCsNa1 ioa time)
  | .cTsNa1 fbp => some (.cTsNa1 ioa fbp)
  | .cRpNa1 qrp => some (.cRpNa1 ioa qrp)
  | .cCdNa1 delay => some (.cCdNa1 ioa delay)
  | .cTsTa1 tsc time => some (.cTsTa1 ioa tsc time)
  | .pMeNa1 nva qpm => some (.pMeNa1 ioa nva qpm)
  | .pMeNb1 sva qpm => some (.pMeNb1 ioa sva qpm)
  | .pMeNc1 r32 qpm => some (.pMeNc1 ioa r32 qpm)
  | .pAcNa1 qpa => some (.pAcNa1 ioa qpa)
  | .fFrNa1 nof lof frq => some (.fFrNa1 ioa nof lof frq)
  | .fSrNa1 nof nos lof srq => some (.fSrNa1 ioa nof nos lof srq)
  | .fScNa1 nof nos scq => some (.fScNa1 ioa nof nos scq)
  | .fLsNa1 nof nos lsq chs => some (.fLsNa1 ioa nof nos lsq chs)
  | .fAfNa1 nof nos afq => some (.fAfNa1 ioa nof nos afq)
  | .fSgNa1 nof nos seg => some (.fSgNa1 ioa nof nos seg)
  | .fDrTa1 nof lof sof time => some (.fDrTa1 ioa nof lof sof time)
  | .fScNb1 nof start stop => some (.fScNb1 ioa nof start stop)
  | .raw _ => none

/-- The address and the payload of a type row (30_encoding.md R108): three octets, and the payload of the type, whose
length is in it for type 125. -/
def readObject (t : TypeId) (os : List Byte) : Option (Instr × List Byte) := do
  let (ioa, os) ← readNat 3 os
  let size := if t = .fSgNa1 then 4 + (octet os 3).toNat else t.size
  let (payload, os) ← readOctets size os
  let instr ← Instr.ofObject? (BitVec.ofNat 24 ioa) (t.decBody payload)
  some (instr, os)

/-- The rest of an APDU row: control octets 2 to 4, then the octets after them, their number in one octet. -/
def readApdu (ctrl1 : Byte) (os : List Byte) : Option (Option (Instr × List Byte)) :=
  let rest (make : Byte → Byte → Byte → List Byte → Instr) : Option (Option (Instr × List Byte)) := some do
    let (ctrl2, os) ← readByte os
    let (ctrl3, os) ← readByte os
    let (ctrl4, os) ← readByte os
    let (tail, os) ← readString 1 os
    if tailFits tail = true then some (make ctrl2 ctrl3 ctrl4 tail, os) else none
  match Machine.classify ctrl1 with
  | .i => rest (.iFrame (ctrl1.extractLsb' 1 7))
  | .s => rest .sFrame
  | .u .startdtAct => rest .uStartdtAct
  | .u .startdtCon => rest .uStartdtCon
  | .u .stopdtAct => rest .uStopdtAct
  | .u .stopdtCon => rest .uStopdtCon
  | .u .testfrAct => rest .uTestfrAct
  | .u .testfrCon => rest .uTestfrCon
  | .none => none

/-- The rest of an FT1.2 frame row: the octets after the start octet, their number in two octets. -/
def readFrame (start : Byte) (os : List Byte) : Option (Option (Instr × List Byte)) :=
  let rest (make : List Byte → Instr) : Option (Option (Instr × List Byte)) := some do
    let (tail, os) ← readString 2 os
    if frameTailFits tail = true then some (make tail, os) else none
  match start.toNat with
  | 0x10 => rest .ft12Fixed
  | 0x68 => rest .ft12Variable
  | 0xE5 => rest .ft12Single
  | _ => none

/-- The rest of a row of a fixed-length frame: the link address octets, their number in one octet. -/
def readAddr (make : List Byte → Instr) (os : List Byte) : Option (Instr × List Byte) := do
  let (addr, os) ← readString 1 os
  if addrFits addr = true then some (make addr, os) else none

/-- The rest of a row of a variable-length frame: link address octets and user data, each after its length in one
octet. -/
def readAddrUd (make : List Byte → List Byte → Instr) (os : List Byte) : Option (Instr × List Byte) := do
  let (addr, os) ← readString 1 os
  let (ud, os) ← readString 1 os
  if udFits addr ud = true then some (make addr ud, os) else none

/-- The unbalanced function code row of a control octet (45_ft12_link.md R370 to R377, R384 to R390): by PRM
and function code. -/
def readUnbalanced (c : Byte) (os : List Byte) : Option (Option (Instr × List Byte)) :=
  let b7 := c.extractLsb' 7 1
  let b5 := c.extractLsb' 5 1
  let b4 := c.extractLsb' 4 1
  match (c.extractLsb' 6 1).toNat, (c.extractLsb' 0 4).toNat with
  | 1, 0 => some (readAddr (.unbPriResetRemoteLink b7 b5 b4) os)
  | 1, 1 => some (readAddr (.unbPriResetUserProcess b7 b5 b4) os)
  | 1, 3 => some (readAddrUd (.unbPriUserDataConfirm b7 b5 b4) os)
  | 1, 4 => some (readAddrUd (.unbPriUserDataNoReply b7 b5 b4) os)
  | 1, 8 => some (readAddr (.unbPriRequestAccessDemand b7 b5 b4) os)
  | 1, 9 => some (readAddr (.unbPriRequestLinkStatus b7 b5 b4) os)
  | 1, 10 => some (readAddr (.unbPriRequestClass1 b7 b5 b4) os)
  | 1, 11 => some (readAddr (.unbPriRequestClass2 b7 b5 b4) os)
  | 0, 0 => some (readAddr (.unbSecAck b7 b5 b4) os)
  | 0, 1 => some (readAddr (.unbSecNackBusy b7 b5 b4) os)
  | 0, 8 => some (readAddrUd (.unbSecUserData b7 b5 b4) os)
  | 0, 9 => some (readAddr (.unbSecNackNoData b7 b5 b4) os)
  | 0, 11 => some (readAddr (.unbSecLinkStatus b7 b5 b4) os)
  | 0, 14 => some (readAddr (.unbSecLinkNotFunctioning b7 b5 b4) os)
  | 0, 15 => some (readAddr (.unbSecLinkNotImplemented b7 b5 b4) os)
  | _, _ => none

/-- The balanced function code row of a control octet (45_ft12_link.md R378 to R383, R391 to R395): by PRM
and function code. -/
def readBalanced (c : Byte) (os : List Byte) : Option (Option (Instr × List Byte)) :=
  let b7 := c.extractLsb' 7 1
  let b5 := c.extractLsb' 5 1
  let b4 := c.extractLsb' 4 1
  match (c.extractLsb' 6 1).toNat, (c.extractLsb' 0 4).toNat with
  | 1, 0 => some (readAddr (.balPriResetRemoteLink b7 b5 b4) os)
  | 1, 1 => some (readAddr (.balPriResetUserProcess b7 b5 b4) os)
  | 1, 2 => some (readAddr (.balPriTestLink b7 b5 b4) os)
  | 1, 3 => some (readAddrUd (.balPriUserDataConfirm b7 b5 b4) os)
  | 1, 4 => some (readAddrUd (.balPriUserDataNoReply b7 b5 b4) os)
  | 1, 9 => some (readAddr (.balPriRequestLinkStatus b7 b5 b4) os)
  | 0, 0 => some (readAddr (.balSecAck b7 b5 b4) os)
  | 0, 1 => some (readAddr (.balSecNackBusy b7 b5 b4) os)
  | 0, 11 => some (readAddr (.balSecLinkStatus b7 b5 b4) os)
  | 0, 14 => some (readAddr (.balSecLinkNotFunctioning b7 b5 b4) os)
  | 0, 15 => some (readAddr (.balSecLinkNotImplemented b7 b5 b4) os)
  | _, _ => none

/-- What the octets after the first one give in a space; the outer `none` is an unassigned first octet. -/
def readRow (sp : Space) (first : Byte) (os : List Byte) : Option (Option (Instr × List Byte)) :=
  match sp with
  | .command => readCommand first os
  | .asduType => (TypeId.ofByte? first).map fun t => readObject t os
  | .apci => readApdu first os
  | .ft12 => readFrame first os
  | .ctlUnbalanced => readUnbalanced first os
  | .ctlBalanced => readBalanced first os

/-- The decoder: total on any octets, and what follows the instruction is left over. -/
def decode (sp : Space) (os : List Byte) : Except DecodeError (Instr × List Byte) :=
  match os with
  | [] => .error .noOctets
  | first :: rest =>
    match readRow sp first rest with
    | none => .error (.unassigned first)
    | some none => .error .malformed
    | some (some r) => .ok r

/-! ## Encoder -/

/-- A truth value as an octet. -/
def boolOctet (b : Bool) : Byte := if b = true then 1#8 else 0#8

/-- A string after its length in `n` octets. -/
def stringOctets (n : Nat) (os : List Byte) : List Byte := leOctets n os.length ++ os

/-- The octets of a CONFIG operand. -/
def ConfigOperand.encode (o : ConfigOperand) : List Byte :=
  [o.cotLen, o.caLen, o.ioaLen, o.typeIdLen] ++ leOctets 2 o.maxAsduLen.toNat ++ leOctets 2 o.k.toNat ++
    leOctets 2 o.w.toNat ++ [o.linkAddrLen, o.linkMode, o.apciRole, o.strictLength, o.fcsMode] ++
    leOctets 1 o.privateTypes.length ++ o.privateTypes.flatMap fun p => [p.typeId, p.size, boolOctet p.seq]

/-- The octets of the body of an ASDU_ADD_IO operand. -/
def BodyOperand.encode : BodyOperand → List Byte
  | .raw octets => 0#8 :: stringOctets 2 octets
  | .std variant values => 1#8 :: variant.code :: values.flatMap fun v => leOctets 8 v.toNat
  | .seg nof nos segment => 2#8 :: leOctets 8 nof.toNat ++ leOctets 8 nos.toNat ++ stringOctets 2 segment

/-- The octet of a BUF operand. -/
def Buf.octet : Buf → Byte
  | .rxbuf => 0#8
  | .txbuf => 1#8
  | .abuf => 2#8

/-- The octet of a UFN operand. -/
def Ufn.octet : Ufn → Byte
  | .startdtAct => 0#8
  | .startdtCon => 1#8
  | .stopdtAct => 2#8
  | .stopdtCon => 3#8
  | .testfrAct => 4#8
  | .testfrCon => 5#8

/-- The octets of a type row. -/
def encodeObject (ioa : Ioa) (t : TypeId) (body : Body) : List Byte := t.code :: leOctets 3 ioa.toNat ++ body.enc

/-- The octets of an APDU row. -/
def encodeApdu (ctrl1 ctrl2 ctrl3 ctrl4 : Byte) (tail : List Byte) : List Byte :=
  [ctrl1, ctrl2, ctrl3, ctrl4] ++ stringOctets 1 tail

/-- The octets of a function code row. -/
def encodeControl (b7 prm b5 b4 : BitVec 1) (fc : BitVec 4) (rest : List Byte) : List Byte :=
  Machine.ctlOctet b7 prm b5 b4 fc :: rest

/-- The space of an instruction: the format of its row in spec/opcode_table.json. -/
def Instr.space : Instr → Space
  | .nop => .command
  | .reset _ => .command
  | .asduBegin _ _ _ _ _ _ => .command
  | .asduAddIo _ => .command
  | .asduSetRaw _ _ _ => .command
  | .asduEncode => .command
  | .asduDecode _ _ => .command
  | .asduGetElement _ => .command
  | .asduRewriteCot _ _ => .command
  | .ft12EncFixed _ _ => .command
  | .ft12EncVar _ _ => .command
  | .ft12EncSingle => .command
  | .ft12Decode _ => .command
  | .apciReceive _ => .command
  | .apciSendI _ => .command
  | .apciSendS => .command
  | .apciSendU _ => .command
  | .apciReset => .command
  | .chkResetFile => .command
  | .chkBeginSection => .command
  | .chkAdd _ _ _ => .command
  | .chkAddElement => .command
  | .chkCheckSection _ => .command
  | .chkCloseSection => .command
  | .chkCheckFile _ => .command
  | .mSpNa1 _ _ => .asduType
  | .mSpTa1 _ _ _ => .asduType
  | .mDpNa1 _ _ => .asduType
  | .mDpTa1 _ _ _ => .asduType
  | .mStNa1 _ _ _ => .asduType
  | .mStTa1 _ _ _ _ => .asduType
  | .mBoNa1 _ _ _ => .asduType
  | .mBoTa1 _ _ _ _ => .asduType
  | .mMeNa1 _ _ _ => .asduType
  | .mMeTa1 _ _ _ _ => .asduType
  | .mMeNb1 _ _ _ => .asduType
  | .mMeTb1 _ _ _ _ => .asduType
  | .mMeNc1 _ _ _ => .asduType
  | .mMeTc1 _ _ _ _ => .asduType
  | .mItNa1 _ _ => .asduType
  | .mItTa1 _ _ _ => .asduType
  | .mEpTa1 _ _ _ _ => .asduType
  | .mEpTb1 _ _ _ _ _ => .asduType
  | .mEpTc1 _ _ _ _ _ => .asduType
  | .mPsNa1 _ _ _ => .asduType
  | .mMeNd1 _ _ => .asduType
  | .mSpTb1 _ _ _ => .asduType
  | .mDpTb1 _ _ _ => .asduType
  | .mStTb1 _ _ _ _ => .asduType
  | .mBoTb1 _ _ _ _ => .asduType
  | .mMeTd1 _ _ _ _ => .asduType
  | .mMeTe1 _ _ _ _ => .asduType
  | .mMeTf1 _ _ _ _ => .asduType
  | .mItTb1 _ _ _ => .asduType
  | .mEpTd1 _ _ _ _ => .asduType
  | .mEpTe1 _ _ _ _ _ => .asduType
  | .mEpTf1 _ _ _ _ _ => .asduType
  | .cScNa1 _ _ => .asduType
  | .cDcNa1 _ _ => .asduType
  | .cRcNa1 _ _ => .asduType
  | .cSeNa1 _ _ _ => .asduType
  | .cSeNb1 _ _ _ => .asduType
  | .cSeNc1 _ _ _ => .asduType
  | .cBoNa1 _ _ => .asduType
  | .cScTa1 _ _ _ => .asduType
  | .cDcTa1 _ _ _ => .asduType
  | .cRcTa1 _ _ _ => .asduType
  | .cSeTa1 _ _ _ _ => .asduType
  | .cSeTb1 _ _ _ _ => .asduType
  | .cSeTc1 _ _ _ _ => .asduType
  | .cBoTa1 _ _ _ => .asduType
  | .mEiNa1 _ _ => .asduType
  | .cIcNa1 _ _ => .asduType
  | .cCiNa1 _ _ => .asduType
  | .cRdNa1 _ => .asduType
  | .cCsNa1 _ _ => .asduType
  | .cTsNa1 _ _ => .asduType
  | .cRpNa1 _ _ => .asduType
  | .cCdNa1 _ _ => .asduType
  | .cTsTa1 _ _ _ => .asduType
  | .pMeNa1 _ _ _ => .asduType
  | .pMeNb1 _ _ _ => .asduType
  | .pMeNc1 _ _ _ => .asduType
  | .pAcNa1 _ _ => .asduType
  | .fFrNa1 _ _ _ _ => .asduType
  | .fSrNa1 _ _ _ _ _ => .asduType
  | .fScNa1 _ _ _ _ => .asduType
  | .fLsNa1 _ _ _ _ _ => .asduType
  | .fAfNa1 _ _ _ _ => .asduType
  | .fSgNa1 _ _ _ _ => .asduType
  | .fDrTa1 _ _ _ _ _ => .asduType
  | .fScNb1 _ _ _ _ => .asduType
  | .iFrame _ _ _ _ _ => .apci
  | .sFrame _ _ _ _ => .apci
  | .uStartdtAct _ _ _ _ => .apci
  | .uStartdtCon _ _ _ _ => .apci
  | .uStopdtAct _ _ _ _ => .apci
  | .uStopdtCon _ _ _ _ => .apci
  | .uTestfrAct _ _ _ _ => .apci
  | .uTestfrCon _ _ _ _ => .apci
  | .ft12Fixed _ => .ft12
  | .ft12Variable _ => .ft12
  | .ft12Single _ => .ft12
  | .unbPriResetRemoteLink _ _ _ _ => .ctlUnbalanced
  | .unbPriResetUserProcess _ _ _ _ => .ctlUnbalanced
  | .unbPriUserDataConfirm _ _ _ _ _ => .ctlUnbalanced
  | .unbPriUserDataNoReply _ _ _ _ _ => .ctlUnbalanced
  | .unbPriRequestAccessDemand _ _ _ _ => .ctlUnbalanced
  | .unbPriRequestLinkStatus _ _ _ _ => .ctlUnbalanced
  | .unbPriRequestClass1 _ _ _ _ => .ctlUnbalanced
  | .unbPriRequestClass2 _ _ _ _ => .ctlUnbalanced
  | .balPriResetRemoteLink _ _ _ _ => .ctlBalanced
  | .balPriResetUserProcess _ _ _ _ => .ctlBalanced
  | .balPriTestLink _ _ _ _ => .ctlBalanced
  | .balPriUserDataConfirm _ _ _ _ _ => .ctlBalanced
  | .balPriUserDataNoReply _ _ _ _ _ => .ctlBalanced
  | .balPriRequestLinkStatus _ _ _ _ => .ctlBalanced
  | .unbSecAck _ _ _ _ => .ctlUnbalanced
  | .unbSecNackBusy _ _ _ _ => .ctlUnbalanced
  | .unbSecUserData _ _ _ _ _ => .ctlUnbalanced
  | .unbSecNackNoData _ _ _ _ => .ctlUnbalanced
  | .unbSecLinkStatus _ _ _ _ => .ctlUnbalanced
  | .unbSecLinkNotFunctioning _ _ _ _ => .ctlUnbalanced
  | .unbSecLinkNotImplemented _ _ _ _ => .ctlUnbalanced
  | .balSecAck _ _ _ _ => .ctlBalanced
  | .balSecNackBusy _ _ _ _ => .ctlBalanced
  | .balSecLinkStatus _ _ _ _ => .ctlBalanced
  | .balSecLinkNotFunctioning _ _ _ _ => .ctlBalanced
  | .balSecLinkNotImplemented _ _ _ _ => .ctlBalanced

/-- The octets of an instruction in its space. -/
def encode : Instr → List Byte
  | .nop => [0x00#8]
  | .reset cfg => 0x01#8 :: cfg.encode
  | .asduBegin sq t pn cot oa ca => [0x10#8, boolOctet sq, boolOctet t, boolOctet pn, cot, oa] ++ leOctets 2 ca.toNat
  | .asduAddIo io => [0x11#8, io.type] ++ leOctets 4 io.ioa.toNat ++ io.body.encode
  | .asduSetRaw type count data => [0x12#8, type, count] ++ stringOctets 1 data
  | .asduEncode => [0x13#8]
  | .asduDecode off len => 0x14#8 :: leOctets 2 off.toNat ++ leOctets 2 len.toNat
  | .asduGetElement idx => [0x15#8, idx]
  | .asduRewriteCot cot pn => [0x16#8, cot, boolOctet pn]
  | .ft12EncFixed c a => [0x20#8, c] ++ leOctets 2 a.toNat
  | .ft12EncVar c a => [0x21#8, c] ++ leOctets 2 a.toNat
  | .ft12EncSingle => [0x22#8]
  | .ft12Decode len => 0x23#8 :: leOctets 2 len.toNat
  | .apciReceive len => 0x30#8 :: leOctets 2 len.toNat
  | .apciSendI tag => 0x31#8 :: leOctets 2 tag.qidx.toNat ++ leOctets 8 tag.ts.toNat
  | .apciSendS => [0x32#8]
  | .apciSendU fn => [0x33#8, fn.octet]
  | .apciReset => [0x34#8]
  | .chkResetFile => [0x40#8]
  | .chkBeginSection => [0x41#8]
  | .chkAdd buf off len => [0x42#8, buf.octet] ++ leOctets 2 off.toNat ++ leOctets 2 len.toNat
  | .chkAddElement => [0x43#8]
  | .chkCheckSection chs => [0x44#8, chs]
  | .chkCloseSection => [0x45#8]
  | .chkCheckFile chs => [0x46#8, chs]
  | .mSpNa1 ioa siq => encodeObject ioa .mSpNa1 (.mSpNa1 siq)
  | .mSpTa1 ioa siq time => encodeObject ioa .mSpTa1 (.mSpTa1 siq time)
  | .mDpNa1 ioa diq => encodeObject ioa .mDpNa1 (.mDpNa1 diq)
  | .mDpTa1 ioa diq time => encodeObject ioa .mDpTa1 (.mDpTa1 diq time)
  | .mStNa1 ioa vti qds => encodeObject ioa .mStNa1 (.mStNa1 vti qds)
  | .mStTa1 ioa vti qds time => encodeObject ioa .mStTa1 (.mStTa1 vti qds time)
  | .mBoNa1 ioa bsi qds => encodeObject ioa .mBoNa1 (.mBoNa1 bsi qds)
  | .mBoTa1 ioa bsi qds time => encodeObject ioa .mBoTa1 (.mBoTa1 bsi qds time)
  | .mMeNa1 ioa nva qds => encodeObject ioa .mMeNa1 (.mMeNa1 nva qds)
  | .mMeTa1 ioa nva qds time => encodeObject ioa .mMeTa1 (.mMeTa1 nva qds time)
  | .mMeNb1 ioa sva qds => encodeObject ioa .mMeNb1 (.mMeNb1 sva qds)
  | .mMeTb1 ioa sva qds time => encodeObject ioa .mMeTb1 (.mMeTb1 sva qds time)
  | .mMeNc1 ioa r32 qds => encodeObject ioa .mMeNc1 (.mMeNc1 r32 qds)
  | .mMeTc1 ioa r32 qds time => encodeObject ioa .mMeTc1 (.mMeTc1 r32 qds time)
  | .mItNa1 ioa bcr => encodeObject ioa .mItNa1 (.mItNa1 bcr)
  | .mItTa1 ioa bcr time => encodeObject ioa .mItTa1 (.mItTa1 bcr time)
  | .mEpTa1 ioa sep elapsed time => encodeObject ioa .mEpTa1 (.mEpTa1 sep elapsed time)
  | .mEpTb1 ioa spe qdp duration time => encodeObject ioa .mEpTb1 (.mEpTb1 spe qdp duration time)
  | .mEpTc1 ioa oci qdp optime time => encodeObject ioa .mEpTc1 (.mEpTc1 oci qdp optime time)
  | .mPsNa1 ioa scd qds => encodeObject ioa .mPsNa1 (.mPsNa1 scd qds)
  | .mMeNd1 ioa nva => encodeObject ioa .mMeNd1 (.mMeNd1 nva)
  | .mSpTb1 ioa siq time => encodeObject ioa .mSpTb1 (.mSpTb1 siq time)
  | .mDpTb1 ioa diq time => encodeObject ioa .mDpTb1 (.mDpTb1 diq time)
  | .mStTb1 ioa vti qds time => encodeObject ioa .mStTb1 (.mStTb1 vti qds time)
  | .mBoTb1 ioa bsi qds time => encodeObject ioa .mBoTb1 (.mBoTb1 bsi qds time)
  | .mMeTd1 ioa nva qds time => encodeObject ioa .mMeTd1 (.mMeTd1 nva qds time)
  | .mMeTe1 ioa sva qds time => encodeObject ioa .mMeTe1 (.mMeTe1 sva qds time)
  | .mMeTf1 ioa r32 qds time => encodeObject ioa .mMeTf1 (.mMeTf1 r32 qds time)
  | .mItTb1 ioa bcr time => encodeObject ioa .mItTb1 (.mItTb1 bcr time)
  | .mEpTd1 ioa sep elapsed time => encodeObject ioa .mEpTd1 (.mEpTd1 sep elapsed time)
  | .mEpTe1 ioa spe qdp duration time => encodeObject ioa .mEpTe1 (.mEpTe1 spe qdp duration time)
  | .mEpTf1 ioa oci qdp optime time => encodeObject ioa .mEpTf1 (.mEpTf1 oci qdp optime time)
  | .cScNa1 ioa sco => encodeObject ioa .cScNa1 (.cScNa1 sco)
  | .cDcNa1 ioa dco => encodeObject ioa .cDcNa1 (.cDcNa1 dco)
  | .cRcNa1 ioa rco => encodeObject ioa .cRcNa1 (.cRcNa1 rco)
  | .cSeNa1 ioa nva qos => encodeObject ioa .cSeNa1 (.cSeNa1 nva qos)
  | .cSeNb1 ioa sva qos => encodeObject ioa .cSeNb1 (.cSeNb1 sva qos)
  | .cSeNc1 ioa r32 qos => encodeObject ioa .cSeNc1 (.cSeNc1 r32 qos)
  | .cBoNa1 ioa bsi => encodeObject ioa .cBoNa1 (.cBoNa1 bsi)
  | .cScTa1 ioa sco time => encodeObject ioa .cScTa1 (.cScTa1 sco time)
  | .cDcTa1 ioa dco time => encodeObject ioa .cDcTa1 (.cDcTa1 dco time)
  | .cRcTa1 ioa rco time => encodeObject ioa .cRcTa1 (.cRcTa1 rco time)
  | .cSeTa1 ioa nva qos time => encodeObject ioa .cSeTa1 (.cSeTa1 nva qos time)
  | .cSeTb1 ioa sva qos time => encodeObject ioa .cSeTb1 (.cSeTb1 sva qos time)
  | .cSeTc1 ioa r32 qos time => encodeObject ioa .cSeTc1 (.cSeTc1 r32 qos time)
  | .cBoTa1 ioa bsi time => encodeObject ioa .cBoTa1 (.cBoTa1 bsi time)
  | .mEiNa1 ioa coi => encodeObject ioa .mEiNa1 (.mEiNa1 coi)
  | .cIcNa1 ioa qoi => encodeObject ioa .cIcNa1 (.cIcNa1 qoi)
  | .cCiNa1 ioa qcc => encodeObject ioa .cCiNa1 (.cCiNa1 qcc)
  | .cRdNa1 ioa => encodeObject ioa .cRdNa1 .cRdNa1
  | .cCsNa1 ioa time => encodeObject ioa .cCsNa1 (.cCsNa1 time)
  | .cTsNa1 ioa fbp => encodeObject ioa .cTsNa1 (.cTsNa1 fbp)
  | .cRpNa1 ioa qrp => encodeObject ioa .cRpNa1 (.cRpNa1 qrp)
  | .cCdNa1 ioa delay => encodeObject ioa .cCdNa1 (.cCdNa1 delay)
  | .cTsTa1 ioa tsc time => encodeObject ioa .cTsTa1 (.cTsTa1 tsc time)
  | .pMeNa1 ioa nva qpm => encodeObject ioa .pMeNa1 (.pMeNa1 nva qpm)
  | .pMeNb1 ioa sva qpm => encodeObject ioa .pMeNb1 (.pMeNb1 sva qpm)
  | .pMeNc1 ioa r32 qpm => encodeObject ioa .pMeNc1 (.pMeNc1 r32 qpm)
  | .pAcNa1 ioa qpa => encodeObject ioa .pAcNa1 (.pAcNa1 qpa)
  | .fFrNa1 ioa nof lof frq => encodeObject ioa .fFrNa1 (.fFrNa1 nof lof frq)
  | .fSrNa1 ioa nof nos lof srq => encodeObject ioa .fSrNa1 (.fSrNa1 nof nos lof srq)
  | .fScNa1 ioa nof nos scq => encodeObject ioa .fScNa1 (.fScNa1 nof nos scq)
  | .fLsNa1 ioa nof nos lsq chs => encodeObject ioa .fLsNa1 (.fLsNa1 nof nos lsq chs)
  | .fAfNa1 ioa nof nos afq => encodeObject ioa .fAfNa1 (.fAfNa1 nof nos afq)
  | .fSgNa1 ioa nof nos seg => encodeObject ioa .fSgNa1 (.fSgNa1 nof nos seg)
  | .fDrTa1 ioa nof lof sof time => encodeObject ioa .fDrTa1 (.fDrTa1 nof lof sof time)
  | .fScNb1 ioa nof start stop => encodeObject ioa .fScNb1 (.fScNb1 nof start stop)
  | .iFrame ns7 ctrl2 ctrl3 ctrl4 tail => encodeApdu (ns7 ++ 0#1) ctrl2 ctrl3 ctrl4 tail
  | .sFrame ctrl2 ctrl3 ctrl4 tail => encodeApdu 0x01#8 ctrl2 ctrl3 ctrl4 tail
  | .uStartdtAct ctrl2 ctrl3 ctrl4 tail => encodeApdu (Machine.ufnCode .startdtAct) ctrl2 ctrl3 ctrl4 tail
  | .uStartdtCon ctrl2 ctrl3 ctrl4 tail => encodeApdu (Machine.ufnCode .startdtCon) ctrl2 ctrl3 ctrl4 tail
  | .uStopdtAct ctrl2 ctrl3 ctrl4 tail => encodeApdu (Machine.ufnCode .stopdtAct) ctrl2 ctrl3 ctrl4 tail
  | .uStopdtCon ctrl2 ctrl3 ctrl4 tail => encodeApdu (Machine.ufnCode .stopdtCon) ctrl2 ctrl3 ctrl4 tail
  | .uTestfrAct ctrl2 ctrl3 ctrl4 tail => encodeApdu (Machine.ufnCode .testfrAct) ctrl2 ctrl3 ctrl4 tail
  | .uTestfrCon ctrl2 ctrl3 ctrl4 tail => encodeApdu (Machine.ufnCode .testfrCon) ctrl2 ctrl3 ctrl4 tail
  | .ft12Fixed tail => 0x10#8 :: stringOctets 2 tail
  | .ft12Variable tail => 0x68#8 :: stringOctets 2 tail
  | .ft12Single tail => 0xE5#8 :: stringOctets 2 tail
  | .unbPriResetRemoteLink bit7 fcb fcv addr => encodeControl bit7 1#1 fcb fcv 0#4 (stringOctets 1 addr)
  | .unbPriResetUserProcess bit7 fcb fcv addr => encodeControl bit7 1#1 fcb fcv 1#4 (stringOctets 1 addr)
  | .unbPriUserDataConfirm bit7 fcb fcv addr ud =>
    encodeControl bit7 1#1 fcb fcv 3#4 (stringOctets 1 addr ++ stringOctets 1 ud)
  | .unbPriUserDataNoReply bit7 fcb fcv addr ud =>
    encodeControl bit7 1#1 fcb fcv 4#4 (stringOctets 1 addr ++ stringOctets 1 ud)
  | .unbPriRequestAccessDemand bit7 fcb fcv addr => encodeControl bit7 1#1 fcb fcv 8#4 (stringOctets 1 addr)
  | .unbPriRequestLinkStatus bit7 fcb fcv addr => encodeControl bit7 1#1 fcb fcv 9#4 (stringOctets 1 addr)
  | .unbPriRequestClass1 bit7 fcb fcv addr => encodeControl bit7 1#1 fcb fcv 10#4 (stringOctets 1 addr)
  | .unbPriRequestClass2 bit7 fcb fcv addr => encodeControl bit7 1#1 fcb fcv 11#4 (stringOctets 1 addr)
  | .balPriResetRemoteLink bit7 fcb fcv addr => encodeControl bit7 1#1 fcb fcv 0#4 (stringOctets 1 addr)
  | .balPriResetUserProcess bit7 fcb fcv addr => encodeControl bit7 1#1 fcb fcv 1#4 (stringOctets 1 addr)
  | .balPriTestLink bit7 fcb fcv addr => encodeControl bit7 1#1 fcb fcv 2#4 (stringOctets 1 addr)
  | .balPriUserDataConfirm bit7 fcb fcv addr ud =>
    encodeControl bit7 1#1 fcb fcv 3#4 (stringOctets 1 addr ++ stringOctets 1 ud)
  | .balPriUserDataNoReply bit7 fcb fcv addr ud =>
    encodeControl bit7 1#1 fcb fcv 4#4 (stringOctets 1 addr ++ stringOctets 1 ud)
  | .balPriRequestLinkStatus bit7 fcb fcv addr => encodeControl bit7 1#1 fcb fcv 9#4 (stringOctets 1 addr)
  | .unbSecAck bit7 acd dfc addr => encodeControl bit7 0#1 acd dfc 0#4 (stringOctets 1 addr)
  | .unbSecNackBusy bit7 acd dfc addr => encodeControl bit7 0#1 acd dfc 1#4 (stringOctets 1 addr)
  | .unbSecUserData bit7 acd dfc addr ud =>
    encodeControl bit7 0#1 acd dfc 8#4 (stringOctets 1 addr ++ stringOctets 1 ud)
  | .unbSecNackNoData bit7 acd dfc addr => encodeControl bit7 0#1 acd dfc 9#4 (stringOctets 1 addr)
  | .unbSecLinkStatus bit7 acd dfc addr => encodeControl bit7 0#1 acd dfc 11#4 (stringOctets 1 addr)
  | .unbSecLinkNotFunctioning bit7 acd dfc addr => encodeControl bit7 0#1 acd dfc 14#4 (stringOctets 1 addr)
  | .unbSecLinkNotImplemented bit7 acd dfc addr => encodeControl bit7 0#1 acd dfc 15#4 (stringOctets 1 addr)
  | .balSecAck bit7 bit5 dfc addr => encodeControl bit7 0#1 bit5 dfc 0#4 (stringOctets 1 addr)
  | .balSecNackBusy bit7 bit5 dfc addr => encodeControl bit7 0#1 bit5 dfc 1#4 (stringOctets 1 addr)
  | .balSecLinkStatus bit7 bit5 dfc addr => encodeControl bit7 0#1 bit5 dfc 11#4 (stringOctets 1 addr)
  | .balSecLinkNotFunctioning bit7 bit5 dfc addr => encodeControl bit7 0#1 bit5 dfc 14#4 (stringOctets 1 addr)
  | .balSecLinkNotImplemented bit7 bit5 dfc addr => encodeControl bit7 0#1 bit5 dfc 15#4 (stringOctets 1 addr)

/-! ## Words of spec/opcode_table.json -/

/-- The octets of a table word of `nbits` bits, in whole octets, and zero octets after it: enough for the operands of
every row, since a row whose operands are all zero is shorter. -/
def tableOctets (nbits w : Nat) : List Byte := leOctets ((nbits + 7) / 8) w ++ List.replicate 64 0#8

/-- The spaces in the order that a table word is looked up in (log entry 3). -/
def Space.all : List Space := [.command, .asduType, .apci, .ft12, .ctlUnbalanced, .ctlBalanced]

/-- The first space of a list in which the octets decode, and the instruction there. -/
def decodeIn : List Space → List Byte → Option (Space × Instr)
  | [], _ => none
  | sp :: sps, os =>
    match decode sp os with
    | .ok (instr, _) => some (sp, instr)
    | .error _ => decodeIn sps os

/-- The instruction of a table word. The same word is a row's in several spaces (log entry 3): the first of
`Space.all` in which it decodes. -/
def decodeTableWord (nbits w : Nat) : Option Instr := (decodeIn Space.all (tableOctets nbits w)).map Prod.snd

end Sys2Proof
end

