-- ==== Sys2Proof/Machine/Ops.lean ====
section
/-! DEFINITION. The named operations over buffers and registers: reading and writing a buffer (20_memory.md R70,
R71), the host's writes (R74 to R76), what the configuration says of a type, and the one operation that raises a
status (60_exceptions.md R501 to R507), which is all the exception entry the block has. There is no return from one
(R507): the next command runs, and APCI_RESET and RESET are the ways out of FAULTED. -/

namespace Sys2Proof.Machine

/-! ## Buffer contents -/

/-- The octet at an address; 0 where none is listed (log entry 8). -/
def Mem.get : Mem → Nat → Byte
  | [], _ => 0#8
  | (k, v) :: m, a => if a = k then v else Mem.get m a

/-- Write one octet, keeping addresses rising and listing no zero. -/
def Mem.set : Mem → Nat → Byte → Mem
  | [], a, b => if b = 0#8 then [] else [(a, b)]
  | (k, v) :: m, a, b =>
    if a < k then (if b = 0#8 then (k, v) :: m else (a, b) :: (k, v) :: m)
    else if a = k then (if b = 0#8 then m else (a, b) :: m)
    else (k, v) :: Mem.set m a b

/-- `MemRead` (00_scope.md R23): the n octets from an address on. -/
def Mem.read (m : Mem) : Nat → Nat → List Byte
  | _, 0 => []
  | a, n + 1 => Mem.get m a :: Mem.read m (a + 1) n

/-- `MemWrite` (00_scope.md R23): a string of octets from an address on. -/
def Mem.write (m : Mem) : Nat → List Byte → Mem
  | _, [] => m
  | a, b :: bs => Mem.write (Mem.set m a b) (a + 1) bs

/-- No octet listed below address `lo` or as 0, and addresses strictly rising. -/
def Mem.wfFrom : Nat → Mem → Bool
  | _, [] => true
  | lo, (k, v) :: m => decide (lo ≤ k) && (v != 0#8) && Mem.wfFrom (k + 1) m

/-- The canonical form: addresses strictly rising and no octet listed that reads as an unlisted one. -/
def Mem.wf (m : Mem) : Bool := Mem.wfFrom 0 m

/-! ## Buffers of the state -/

/-- The contents of a buffer. -/
def State.buf (s : State) : Buf → Mem
  | .rxbuf => s.rxbuf
  | .txbuf => s.txbuf
  | .abuf => s.abuf

/-- Replace the contents of a buffer. -/
def State.setBuf (s : State) (b : Buf) (m : Mem) : State :=
  match b with
  | .rxbuf => { s with rxbuf := m }
  | .txbuf => { s with txbuf := m }
  | .abuf => { s with abuf := m }

/-- The octet of a buffer at an address. -/
def State.octetAt (s : State) (b : Buf) (a : Nat) : Byte := (s.buf b).get a

/-- Read octets of a buffer and go on with them; an octet that does not exist is a fault (20_memory.md R70). -/
def State.load (s : State) (b : Buf) (a n : Nat) (k : List Byte → Out) : Out :=
  if a + n ≤ b.size then k ((s.buf b).read a n) else .fault (.outsideBuffer b a)

/-- Write octets of a buffer and go on; an octet that does not exist is a fault (20_memory.md R70). -/
def State.store (s : State) (b : Buf) (a : Nat) (os : List Byte) (k : State → Out) : Out :=
  if a + os.length ≤ b.size then k (s.setBuf b ((s.buf b).write a os)) else .fault (.outsideBuffer b a)

/-! ## Ending a command -/

/-- Write STATUS and STATUS_INFO (60_exceptions.md R501). -/
def State.withStatus (s : State) (e : Status) (info : BitVec 16) : State :=
  { s with status := e.code, statusInfo := info }

/-- The command reached its end: STATUS <- OK, STATUS_INFO <- 0 (00_scope.md R24, 10_state.md R34). -/
def State.finish (s : State) : Out := .next (s.withStatus .ok 0#16)

/-- `raise E(info)` (00_scope.md R24), the block's only exception entry (60_exceptions.md R506): STATUS and
STATUS_INFO are written, a fatal status also sets A_STATE to FAULTED (R503), and nothing else changes. -/
def State.raise (s : State) (e : Status) (info : BitVec 16) : Out :=
  if e.fatal then .next ({ s with apci.state := .faulted }.withStatus e info) else .next (s.withStatus e info)

/-- One check of a command: go on if it holds, else raise its status (60_exceptions.md R504). -/
def State.check (s : State) (p : Prop) [Decidable p] (e : Status) (info : BitVec 16) (k : Out) : Out :=
  if p then k else s.raise e info

/-- The common check of every command but RESET (60_exceptions.md R504, 70_reset_and_hazards.md R542). -/
def State.configured (s : State) (k : Config → Out) : Out :=
  match s.config with
  | none => s.raise .notConfigured 0#16
  | some c => k c

/-! ## The host's writes -/

/-- What a host write to a buffer does besides the octets: RXBUF invalidates the view (20_memory.md R74) and the element
(92_eei_decisions.md D31, 93_implementation_defined.md U28: log entry 10), ABUF ends the builder (R75), TXBUF does
nothing (R76). E_IO keeps the copy (70_reset_and_hazards.md R550). -/
def State.afterHostWrite (s : State) (b : Buf) : State :=
  match b with
  | .rxbuf => { s with view.valid := false, elem.valid := false }
  | .txbuf => s
  | .abuf => { s with builder.active := false }

/-- A host write of a string of octets (20_memory.md R74 to R76). A string of no octets writes nothing. -/
def State.hostWrite (s : State) (b : Buf) (a : Nat) (os : List Byte) (k : State → Out) : Out :=
  match os with
  | [] => k s
  | _ :: _ => s.store b a os fun s => k (s.afterHostWrite b)

/-- The host puts a frame at RXBUF[0..] and issues the command that takes it, with the frame's length (log entry 2). -/
def State.deliver (s : State) (frame : List Byte) (k : State → Out) : Out := s.hostWrite .rxbuf 0 frame k

/-! ## What the configuration says -/

/-- The entry of PRIVATE_TYPES for a type identifier (00_scope.md R18). -/
def privateIn : List PrivateType → Byte → Option PrivateType
  | [], _ => none
  | p :: ps, t => if p.typeId = t then some p else privateIn ps t

/-- `S(t)` of a known type as V_PSIZE holds it, nothing of an unknown one: `known(t)` of 44_asdu_codec.md is that it
is there. The registry is consulted only for a type the standard table does not define (00_scope.md R18). -/
def psizeOf? (c : Config) (t : Byte) : Option PSize :=
  match TypeId.ofByte? t with
  | some std => some std.psize
  | none => (privateIn c.privateTypes t).map fun p => .fixed p.size

/-- `seq_ok(t)` of 44_asdu_codec.md. -/
def seqOk (c : Config) (t : Byte) : Bool :=
  match TypeId.ofByte? t with
  | some std => std.seqOk
  | none => match privateIn c.privateTypes t with
    | some p => p.seq
    | none => false

/-- `dec(t, octets)` of 44_asdu_codec.md: a type that is not standard decodes to its raw octets (R329). -/
def decOf (t : Byte) (os : List Byte) : Body :=
  match TypeId.ofByte? t with
  | some std => std.decBody os
  | none => .raw os

/-- Is the body one that an element of the type can have (44_asdu_codec.md R321 check 5): the variant of the type; for
a private type octets of its size; for type 125 a segment of at most 255 octets? -/
def bodyFits (c : Config) (t : Byte) : Body → Bool
  | .raw octets =>
    match TypeId.ofByte? t, privateIn c.privateTypes t with
    | none, some p => decide (octets.length = p.size.toNat)
    | _, _ => false
  | .fSgNa1 _ _ seg => decide (t = TypeId.fSgNa1.code) && decide (seg.length ≤ 255)
  | b => decide (b.typeId? = TypeId.ofByte? t)

/-- S_REQUIRED (10_state.md R51): `UNACK_RX >= W`; false while there is no W. -/
def State.sRequired (s : State) : Bool :=
  match s.config with
  | none => false
  | some c => decide (c.w ≤ s.apci.unackRx.toNat)

end Sys2Proof.Machine
end

