-- ==== Sys2Proof/Machine/Operands.lean ====
section
/-! DEFINITION. The operand forms that are more than a number: the CONFIG record that RESET checks (00_scope.md R6 to
R19, 70_reset_and_hazards.md R541), the information-object record that ASDU_ADD_IO checks (44_asdu_codec.md R321),
and the three host conversions that make field values (41_primitive_codecs.md R193 to R195; log entry 19). -/

namespace Sys2Proof

/-! ## CONFIG -/

/-- LINK_MODE of an operand octet (00_scope.md R14). -/
def linkModeOf? (b : Byte) : Option LinkMode :=
  if b = 0#8 then some .unbalanced else if b = 1#8 then some .balanced else none

/-- APCI_ROLE of an operand octet (00_scope.md R15). -/
def apciRoleOf? (b : Byte) : Option ApciRole :=
  if b = 0#8 then some .controlled else if b = 1#8 then some .controlling else none

/-- STRICT_LENGTH of an operand octet (00_scope.md R16). -/
def strictLengthOf? (b : Byte) : Option Bool :=
  if b = 0#8 then some false else if b = 1#8 then some true else none

/-- FCS_MODE of an operand octet (00_scope.md R17). -/
def fcsModeOf? (b : Byte) : Option FcsMode := if b = 0#8 then some .sum8 else none

/-- The record that a RESET operand gives, if LINK_MODE, APCI_ROLE, STRICT_LENGTH and FCS_MODE are values of their
types (70_reset_and_hazards.md R541). -/
def ConfigOperand.config? (o : ConfigOperand) : Option Config :=
  match linkModeOf? o.linkMode, apciRoleOf? o.apciRole, strictLengthOf? o.strictLength, fcsModeOf? o.fcsMode with
  | some mode, some role, some strict, some fcs =>
    some { cotLen := o.cotLen.toNat, caLen := o.caLen.toNat, ioaLen := o.ioaLen.toNat,
           typeIdLen := o.typeIdLen.toNat, maxAsduLen := o.maxAsduLen.toNat, k := o.k.toNat, w := o.w.toNat,
           linkAddrLen := o.linkAddrLen.toNat, linkMode := mode, apciRole := role, strictLength := strict,
           fcsMode := fcs, privateTypes := o.privateTypes }
  | _, _, _, _ => none

/-- The ranges of 00_scope.md R6 to R18, as 70_reset_and_hazards.md R541 lists them. -/
def Config.valid (c : Config) : Bool :=
  (decide (c.cotLen = 1) || decide (c.cotLen = 2)) && (decide (c.caLen = 1) || decide (c.caLen = 2)) &&
  (decide (c.ioaLen = 1) || decide (c.ioaLen = 2) || decide (c.ioaLen = 3)) && decide (c.typeIdLen = 1) &&
  decide (c.hdrLen + 1 ≤ c.maxAsduLen) && decide (c.maxAsduLen ≤ 255) &&
  decide (1 ≤ c.k) && decide (c.k ≤ 32767) && decide (1 ≤ c.w) && decide (c.w ≤ 32767) &&
  decide (c.linkAddrLen ≤ 2) && c.privateTypes.all fun p => (TypeId.ofByte? p.typeId).isNone

/-! ## Information objects -/

/-- The body that an ASDU_ADD_IO operand gives, if every value fits its field (44_asdu_codec.md R321 check 5). -/
def BodyOperand.body? : BodyOperand → Option Body
  | .raw octets => some (.raw octets)
  | .std variant values => variant.bodyOfValues? values
  | .seg nof nos segment =>
    if fitsField 16 false nof ∧ fitsField 8 false nos then
      some (.fSgNa1 ⟨nof.setWidth 16⟩ ⟨nos.setWidth 8⟩ segment)
    else none

end Sys2Proof

namespace Sys2Proof.Machine

/-! ## Host conversions, which no command executes (41_primitive_codecs.md R193 to R195) -/

/-- `clamp(v, lo, hi)` (00_scope.md R21). -/
def clamp (v lo hi : Int) : Int := min (max v lo) hi

/-- SVA_FROM_INT (41_primitive_codecs.md R193). -/
def svaFromInt (v : Int) : SVA := ⟨BitVec.ofInt 16 (clamp v (-32768) 32767)⟩

/-- A number of the host: a real value, held exactly, or a NaN. -/
inductive HostReal where
  | value (x : Rat)
  | nan
deriving DecidableEq, Repr

/-- NVA_FROM_REAL with a given rounding, which the rule says may be a parameter (41_primitive_codecs.md R194). -/
def nvaFromRealRounding (round : Rat → Int) : HostReal → Except Fault NVA
  | .value x => .ok ⟨BitVec.ofInt 16 (clamp (round (x * 32768)) (-32768) 32767)⟩
  | .nan => .error .notANumber

/-- NVA_FROM_REAL with the rule's own rounding, toward negative infinity (41_primitive_codecs.md R194). -/
def nvaFromReal (x : HostReal) : Except Fault NVA := nvaFromRealRounding Rat.floor x

/-- NVA_TO_REAL (41_primitive_codecs.md R195). -/
def nvaToReal (v : NVA) : Rat := (v.raw.toInt : Rat) / 32768

/-- The integer value of a VTI: `sext_7(VAL)` (41_primitive_codecs.md R154). -/
def vtiToInt (v : VTI) : Int := v.val.toInt

end Sys2Proof.Machine
end

