-- ==== Sys2Proof/Machine/Checksum.lean ====
section
/-! DEFINITION. The checksum unit (47_checksum.md R470 to R477). -/

namespace Sys2Proof.Machine

/-- CHK_RESET_FILE (47_checksum.md R471). -/
def execChkResetFile (s : State) : Out :=
  s.configured fun _ => { s with chk := { sect := 0#8, file := 0#8 } }.finish

/-- CHK_BEGIN_SECTION (47_checksum.md R472). -/
def execChkBeginSection (s : State) : Out := s.configured fun _ => { s with chk.sect := 0#8 }.finish

/-- `CHK_SECTION <- (CHK_SECTION + SUM8(os)) mod 256`, which CHK_ADD and CHK_ADD_ELEMENT share. -/
def State.addToSection (s : State) (os : List Byte) : State := { s with chk.sect := s.chk.sect + sum8 os }

/-- `CHK_FILE <- (CHK_FILE + CHK_SECTION) mod 256 ; CHK_SECTION <- 0`, the closing of a section. -/
def State.closeSection (s : State) : State :=
  { s with chk := { sect := 0#8, file := s.chk.file + s.chk.sect } }

/-- CHK_ADD (47_checksum.md R473). -/
def execChkAdd (buf : Buf) (off len : BitVec 16) (s : State) : Out :=
  s.configured fun _ =>
  s.check (off.toNat + len.toNat ≤ buf.size) .operandRange off <|
  s.load buf off.toNat len.toNat fun os => (s.addToSection os).finish

/-- The segment octets of a body of type 125; no other body has any. -/
def segOf : Body → List Byte
  | .fSgNa1 _ _ seg => seg
  | _ => []

/-- CHK_ADD_ELEMENT (47_checksum.md R474). -/
def execChkAddElement (s : State) : Out :=
  s.configured fun _ =>
  s.check (s.elem.valid = true) .noView 0#16 <|
  s.check (s.elem.io.type = TypeId.fSgNa1.code) .typeMismatch (s.elem.io.type.setWidth 16) <|
  (s.addToSection (segOf s.elem.io.body)).finish

/-- CHK_CHECK_SECTION (47_checksum.md R475): a mismatch clears the section before it raises its status. -/
def execChkCheckSection (chs : Byte) (s : State) : Out :=
  s.configured fun _ =>
  { s with chk.sect := 0#8 }.check (chs = s.chk.sect) .checksumMismatch (s.chk.sect.setWidth 16)
    s.closeSection.finish

/-- CHK_CLOSE_SECTION (47_checksum.md R476). -/
def execChkCloseSection (s : State) : Out := s.configured fun _ => s.closeSection.finish

/-- CHK_CHECK_FILE (47_checksum.md R477). -/
def execChkCheckFile (chs : Byte) (s : State) : Out :=
  s.configured fun _ =>
  s.check (chs = s.chk.file) .checksumMismatch (s.chk.file.setWidth 16) s.finish

end Sys2Proof.Machine
end

