-- ==== Sys2Proof/Machine/Asdu.lean ====
section
/-! DEFINITION. The ASDU unit (44_asdu_codec.md): the builder, which writes an ASDU into ABUF (R320 to R323), and the
view, which parses one held in RXBUF (R324 to R326). -/

namespace Sys2Proof.Machine

/-! ## Builder -/

/-- The header octets that ASDU_BEGIN writes: type 0, VSQ with no element, cause, originator when COT_LEN = 2, common
address (44_asdu_codec.md R320, 30_encoding.md R104). -/
def beginHeader (c : Config) (sq t pn : Bool) (cot oa : Byte) (ca : BitVec 16) : List Byte :=
  [0x00#8, vsqOctet sq 0#7, causeOctet t pn (cot.setWidth 6)] ++ (if c.cotLen = 2 then [oa] else []) ++
    leOctets c.caLen ca.toNat

/-- ASDU_BEGIN (44_asdu_codec.md R320). -/
def execAsduBegin (sq t pn : Bool) (cot oa : Byte) (ca : BitVec 16) (s : State) : Out :=
  s.configured fun c =>
  s.check (cot.toNat < 64) .fieldRange (cot.setWidth 16) <|
  s.check (ca.toNat < 2 ^ (8 * c.caLen)) .fieldRange ca <|
  s.store .abuf 0 (beginHeader c sq t pn cot oa ca) fun s =>
  { s with
    builder := { active := true, sq := sq, t := t, pn := pn, cot := cot.setWidth 6,
                 oa := if c.cotLen = 2 then oa else 0#8, ca := ca, type := none, raw := false, count := 0#7,
                 firstIoa := 0#24, len := BitVec.ofNat 8 c.hdrLen }
    asduLen := 0#8 }.finish

/-- The octets that an object adds: in a sequence every element but the first is sent without its address
(44_asdu_codec.md R321 check 9, 30_encoding.md R108). -/
def elementPart (c : Config) (b : Builder) (ioa : Nat) (body : Body) : List Byte :=
  if b.sq = true ∧ b.count ≠ 0#7 then body.enc else leOctets c.ioaLen ioa ++ body.enc

/-- The builder after an object of a type was added (44_asdu_codec.md R321). -/
def Builder.added (b : Builder) (type : Byte) (ioa : Nat) (n : Nat) : Builder :=
  { b with
    type := if b.count = 0#7 then some type else b.type
    firstIoa := if b.count = 0#7 then BitVec.ofNat 24 ioa else b.firstIoa
    count := b.count + 1#7
    len := BitVec.ofNat 8 (b.len.toNat + n) }

/-- The writes of an accepted ASDU_ADD_IO (44_asdu_codec.md R321): the element's octets, the type octet with the first
element, and the VSQ octet. -/
def storeElement (type : Byte) (ioa : Nat) (part : List Byte) (s : State) : Out :=
  let b := s.builder.added type ioa part.length
  s.store .abuf s.builder.len.toNat part fun t =>
  t.store .abuf 0 (if s.builder.count = 0#7 then [type] else []) fun t =>
  t.store .abuf 1 [vsqOctet b.sq b.count] fun t =>
  { t with builder := b }.finish

/-- Checks 6 to 9 and the writes of ASDU_ADD_IO for an object whose fields fit (44_asdu_codec.md R321). -/
def appendObject (c : Config) (type : Byte) (ioa : Nat) (body : Body) (s : State) : Out :=
  let b := s.builder
  let part := elementPart c b ioa body
  s.check (b.count.toNat < 127) .countFull 0#16 <|
  s.check (b.sq = true ∧ b.count = 0#7 → seqOk c type = true) .seqNotSupported (type.setWidth 16) <|
  s.check (b.sq = true ∧ b.count ≠ 0#7 → ioa = b.firstIoa.toNat + b.count.toNat) .seqAddress
    (BitVec.ofNat 16 (b.firstIoa.toNat + b.count.toNat)) <|
  s.check (b.len.toNat + part.length ≤ c.maxAsduLen) .noSpace (BitVec.ofNat 16 (b.len.toNat + part.length)) <|
  storeElement type ioa part s

/-- ASDU_ADD_IO of an object (44_asdu_codec.md R321). `body` is nothing when a value does not fit its field. -/
def addObject (type : Byte) (ioa : Nat) (body : Option Body) (s : State) : Out :=
  s.configured fun c =>
  s.check (s.builder.active = true) .noBuilder 0#16 <|
  s.check (s.builder.raw = false) .rawConflict 0#16 <|
  s.check ((psizeOf? c type).isSome = true) .unknownTypeId (type.setWidth 16) <|
  s.check (s.builder.type = none ∨ s.builder.type = some type) .typeMismatch (type.setWidth 16) <|
  s.check (ioa < 2 ^ (8 * c.ioaLen)) .fieldRange 0#16 <|
  match body with
  | none => s.raise .fieldRange 1#16
  | some body => s.check (bodyFits c type body = true) .fieldRange 1#16 <| appendObject c type ioa body s

/-- ASDU_ADD_IO (44_asdu_codec.md R321). -/
def execAsduAddIo (io : IOOperand) (s : State) : Out := addObject io.type io.ioa.toNat io.body.body? s

/-- ASDU_SET_RAW (44_asdu_codec.md R322). -/
def execAsduSetRaw (type count : Byte) (data : List Byte) (s : State) : Out :=
  s.configured fun c =>
  s.check (s.builder.active = true) .noBuilder 0#16 <|
  s.check (s.builder.count = 0#7 ∧ s.builder.raw = false) .rawConflict 0#16 <|
  s.check (count.toNat ≤ 127) .fieldRange (count.setWidth 16) <|
  s.check (s.builder.len.toNat + data.length ≤ c.maxAsduLen) .noSpace
    (BitVec.ofNat 16 (s.builder.len.toNat + data.length)) <|
  s.store .abuf 0 [type, vsqOctet s.builder.sq (count.setWidth 7)] fun t =>
  t.store .abuf s.builder.len.toNat data fun t =>
  { t with
    builder := { s.builder with type := some type, raw := true, count := count.setWidth 7,
                                len := BitVec.ofNat 8 (s.builder.len.toNat + data.length) } }.finish

/-- ASDU_ENCODE (44_asdu_codec.md R323). -/
def execAsduEncode (s : State) : Out :=
  s.configured fun _ =>
  s.check (s.builder.active = true) .noBuilder 0#16 <|
  s.check (s.builder.type ≠ none) .emptyAsdu 0#16 <|
  { s with asduLen := s.builder.len }.finish

/-! ## View -/

/-- The header of an ASDU's octets (44_asdu_codec.md R324 step 4, 30_encoding.md R104). -/
def parseHeader (c : Config) (os : List Byte) : Header :=
  { type := octet os 0
    sq := vsqSq (octet os 1)
    count := vsqCount (octet os 1)
    t := causeT (octet os 2)
    pn := causePn (octet os 2)
    cot := causeCause (octet os 2)
    oa := if c.cotLen = 2 then octet os 3 else 0#8
    ca := BitVec.ofNat 16 (fromLE (slice os (2 + c.cotLen) c.caLen)) }

/-- The walk over the elements of a type-125 ASDU (44_asdu_codec.md R324 steps 6 and 7): where the elements end, or the
offset that PARSING_ERROR names. -/
def walkSegments (ioaLen : Nat) (os : List Byte) : Nat → Nat → Except Nat Nat
  | 0, p => .ok p
  | n + 1, p =>
    if os.length < p + ioaLen + 4 then .error p
    else
      let q := p + ioaLen + 4 + (octet os (p + ioaLen + 3)).toNat
      if os.length < q then .error q else walkSegments ioaLen os n q

/-- `need` of 44_asdu_codec.md R324 steps 6 and 7, or the info of the PARSING_ERROR there. -/
def needOf (c : Config) (h : Header) (psize : PSize) (os : List Byte) : Except Nat Nat :=
  match psize with
  | .variable => if h.sq = true then .error 1 else walkSegments c.ioaLen os h.count.toNat c.hdrLen
  | .fixed size =>
    let n := h.count.toNat
    let need :=
      if h.sq = true then c.hdrLen + (if 0 < n then c.ioaLen + n * size.toNat else 0)
      else c.hdrLen + n * (c.ioaLen + size.toNat)
    if need ≤ os.length then .ok need else .error need

/-- What ASDU_DECODE finds in the octets of an ASDU. -/
inductive AsduParse where
  /-- PARSING_ERROR with its info. -/
  | bad (info : Nat)
  /-- A header whose type is neither standard nor private. -/
  | unknown (h : Header)
  /-- A header with the size of its elements and the octets it needs. -/
  | good (h : Header) (psize : PSize) (need : Nat)
deriving DecidableEq, Repr

/-- Steps 3 to 8 of 44_asdu_codec.md R324. -/
def parseAsdu (c : Config) (os : List Byte) : AsduParse :=
  if os.length < c.hdrLen then .bad os.length
  else
    let h := parseHeader c os
    match psizeOf? c h.type with
    | none => .unknown h
    | some psize =>
      match needOf c h psize os with
      | .error info => .bad info
      | .ok need => if c.strictLength = true ∧ need ≠ os.length then .bad need else .good h psize need

/-- ASDU_DECODE (44_asdu_codec.md R324). -/
def execAsduDecode (off len : BitVec 16) (s : State) : Out :=
  s.configured fun c =>
  let s := { s with elem.valid := false }
  let failed := { s with view.valid := false }
  failed.check (off.toNat + len.toNat ≤ Buf.rxbuf.size) .operandRange off <|
  s.load .rxbuf off.toNat len.toNat fun os =>
  match parseAsdu c os with
  | .bad info => failed.raise .parsingError (BitVec.ofNat 16 info)
  | .unknown h =>
    { s with view := { valid := true, known := false, off := off, len := len, psize := .fixed 0#8, hdr := h } }.raise
      .unknownTypeId (h.type.setWidth 16)
  | .good h psize need =>
    { s with
      view := { valid := true, known := true, off := off, len := BitVec.ofNat 16 need, psize := psize,
                hdr := h } }.finish

/-- Where element `n` of the type-125 elements from address `p` on starts (44_asdu_codec.md R325). -/
def seekSegment (ioaLen : Nat) (s : State) (k : Nat → Out) : Nat → Nat → Out
  | 0, p => k p
  | n + 1, p =>
    s.load .rxbuf (p + ioaLen + 3) 1 fun os => seekSegment ioaLen s k n (p + ioaLen + 4 + (octet os 0).toNat)

/-- E_IO, E_INDEX and E_VALID of a decoded element, with the warning on an address that must be 0
(44_asdu_codec.md R325). -/
def deliverElement (idx : Byte) (io : IO) (s : State) : Out :=
  let t := { s with elem := { valid := true, index := idx.setWidth 7, io := io } }
  if io.type ∈ zeroIoaTypes ∧ io.ioa ≠ 0#24 then t.raise .ioaNotZero (io.ioa.setWidth 16) else t.finish

/-- The reads of ASDU_GET_ELEMENT for an element of the view (44_asdu_codec.md R325). -/
def readElement (c : Config) (psize : PSize) (idx : Byte) (s : State) : Out :=
  let base := s.view.off.toNat + c.hdrLen
  let t := s.view.hdr.type
  match psize with
  | .variable =>
    seekSegment c.ioaLen s (fun p =>
      s.load .rxbuf p c.ioaLen fun addr =>
      s.load .rxbuf (p + c.ioaLen + 3) 1 fun los =>
      s.load .rxbuf (p + c.ioaLen) (4 + (octet los 0).toNat) fun os =>
      deliverElement idx { type := t, ioa := BitVec.ofNat 24 (fromLE addr), body := decOf t os } s)
      idx.toNat base
  | .fixed size =>
    if s.view.hdr.sq = true then
      s.load .rxbuf base c.ioaLen fun addr =>
      s.load .rxbuf (base + c.ioaLen + idx.toNat * size.toNat) size.toNat fun os =>
      deliverElement idx
        { type := t, ioa := BitVec.ofNat 24 ((fromLE addr + idx.toNat) % 2 ^ (8 * c.ioaLen)), body := decOf t os } s
    else
      let p := base + idx.toNat * (c.ioaLen + size.toNat)
      s.load .rxbuf p c.ioaLen fun addr =>
      s.load .rxbuf (p + c.ioaLen) size.toNat fun os =>
      deliverElement idx { type := t, ioa := BitVec.ofNat 24 (fromLE addr), body := decOf t os } s

/-- ASDU_GET_ELEMENT (44_asdu_codec.md R325). A known view always has a size (R324 step 9); where a state that no run
reaches has none, the status is that of an unknown type (log entry 22). -/
def execAsduGetElement (idx : Byte) (s : State) : Out :=
  s.configured fun c =>
  let failed := { s with elem.valid := false }
  failed.check (s.view.valid = true) .noView 0#16 <|
  failed.check (s.view.known = true) .unknownTypeId (s.view.hdr.type.setWidth 16) <|
  failed.check (idx.toNat < s.view.hdr.count.toNat) .indexRange (idx.setWidth 16) <|
  match psizeOf? c s.view.hdr.type with
  | none => failed.raise .unknownTypeId (s.view.hdr.type.setWidth 16)
  | some psize => readElement c psize idx s

/-- ASDU_REWRITE_COT (44_asdu_codec.md R326). -/
def execAsduRewriteCot (cot : Byte) (pn : Bool) (s : State) : Out :=
  s.configured fun _ =>
  s.check (s.view.valid = true) .noView 0#16 <|
  s.check (cot.toNat < 64) .fieldRange (cot.setWidth 16) <|
  s.check (s.view.len.toNat ≤ 255) .noSpace s.view.len <|
  s.load .rxbuf s.view.off.toNat s.view.len.toNat fun os =>
  s.store .abuf 0 os fun t =>
  t.store .abuf 2 [causeOctet s.view.hdr.t pn (cot.setWidth 6)] fun t =>
  { t with asduLen := s.view.len.setWidth 8, builder.active := false }.finish

end Sys2Proof.Machine
end

