-- ==== Sys2Proof/Machine/RowsMonitor.lean ====
section
/-! DEFINITION. The rows of the type identifiers, monitor direction (42_io_monitor.md R221 to R252), as instructions:
ASDU_ADD_IO of an object of the type (log entry 2). -/

namespace Sys2Proof.Machine

/-- ASDU_ADD_IO of an object of a standard type, all of whose field values fit (44_asdu_codec.md R321, log entry 2). -/
def addTyped (type : TypeId) (ioa : Ioa) (body : Body) (s : State) : Out :=
  addObject type.code ioa.toNat (some body) s

/-- M_SP_NA_1 (42_io_monitor.md R221). -/
def execMSpNa1 (ioa : Ioa) (siq : SIQ) (s : State) : Out :=
  addTyped .mSpNa1 ioa (.mSpNa1 siq) s

/-- M_SP_TA_1 (42_io_monitor.md R222). -/
def execMSpTa1 (ioa : Ioa) (siq : SIQ) (time : CP24Time2a) (s : State) : Out :=
  addTyped .mSpTa1 ioa (.mSpTa1 siq time) s

/-- M_DP_NA_1 (42_io_monitor.md R223). -/
def execMDpNa1 (ioa : Ioa) (diq : DIQ) (s : State) : Out :=
  addTyped .mDpNa1 ioa (.mDpNa1 diq) s

/-- M_DP_TA_1 (42_io_monitor.md R224). -/
def execMDpTa1 (ioa : Ioa) (diq : DIQ) (time : CP24Time2a) (s : State) : Out :=
  addTyped .mDpTa1 ioa (.mDpTa1 diq time) s

/-- M_ST_NA_1 (42_io_monitor.md R225). -/
def execMStNa1 (ioa : Ioa) (vti : VTI) (qds : QDS) (s : State) : Out :=
  addTyped .mStNa1 ioa (.mStNa1 vti qds) s

/-- M_ST_TA_1 (42_io_monitor.md R226). -/
def execMStTa1 (ioa : Ioa) (vti : VTI) (qds : QDS) (time : CP24Time2a) (s : State) : Out :=
  addTyped .mStTa1 ioa (.mStTa1 vti qds time) s

/-- M_BO_NA_1 (42_io_monitor.md R227). -/
def execMBoNa1 (ioa : Ioa) (bsi : BSI) (qds : QDS) (s : State) : Out :=
  addTyped .mBoNa1 ioa (.mBoNa1 bsi qds) s

/-- M_BO_TA_1 (42_io_monitor.md R228). -/
def execMBoTa1 (ioa : Ioa) (bsi : BSI) (qds : QDS) (time : CP24Time2a) (s : State) : Out :=
  addTyped .mBoTa1 ioa (.mBoTa1 bsi qds time) s

/-- M_ME_NA_1 (42_io_monitor.md R229). -/
def execMMeNa1 (ioa : Ioa) (nva : NVA) (qds : QDS) (s : State) : Out :=
  addTyped .mMeNa1 ioa (.mMeNa1 nva qds) s

/-- M_ME_TA_1 (42_io_monitor.md R230). -/
def execMMeTa1 (ioa : Ioa) (nva : NVA) (qds : QDS) (time : CP24Time2a) (s : State) : Out :=
  addTyped .mMeTa1 ioa (.mMeTa1 nva qds time) s

/-- M_ME_NB_1 (42_io_monitor.md R231). -/
def execMMeNb1 (ioa : Ioa) (sva : SVA) (qds : QDS) (s : State) : Out :=
  addTyped .mMeNb1 ioa (.mMeNb1 sva qds) s

/-- M_ME_TB_1 (42_io_monitor.md R232). -/
def execMMeTb1 (ioa : Ioa) (sva : SVA) (qds : QDS) (time : CP24Time2a) (s : State) : Out :=
  addTyped .mMeTb1 ioa (.mMeTb1 sva qds time) s

/-- M_ME_NC_1 (42_io_monitor.md R233). -/
def execMMeNc1 (ioa : Ioa) (r32 : R32) (qds : QDS) (s : State) : Out :=
  addTyped .mMeNc1 ioa (.mMeNc1 r32 qds) s

/-- M_ME_TC_1 (42_io_monitor.md R234). -/
def execMMeTc1 (ioa : Ioa) (r32 : R32) (qds : QDS) (time : CP24Time2a) (s : State) : Out :=
  addTyped .mMeTc1 ioa (.mMeTc1 r32 qds time) s

/-- M_IT_NA_1 (42_io_monitor.md R235). -/
def execMItNa1 (ioa : Ioa) (bcr : BCR) (s : State) : Out :=
  addTyped .mItNa1 ioa (.mItNa1 bcr) s

/-- M_IT_TA_1 (42_io_monitor.md R236). -/
def execMItTa1 (ioa : Ioa) (bcr : BCR) (time : CP24Time2a) (s : State) : Out :=
  addTyped .mItTa1 ioa (.mItTa1 bcr time) s

/-- M_EP_TA_1 (42_io_monitor.md R237). -/
def execMEpTa1 (ioa : Ioa) (sep : SEP) (elapsed : CP16Time2a) (time : CP24Time2a) (s : State) : Out :=
  addTyped .mEpTa1 ioa (.mEpTa1 sep elapsed time) s

/-- M_EP_TB_1 (42_io_monitor.md R238). -/
def execMEpTb1 (ioa : Ioa) (spe : SPE) (qdp : QDP) (duration : CP16Time2a) (time : CP24Time2a) (s : State) : Out :=
  addTyped .mEpTb1 ioa (.mEpTb1 spe qdp duration time) s

/-- M_EP_TC_1 (42_io_monitor.md R239). -/
def execMEpTc1 (ioa : Ioa) (oci : OCI) (qdp : QDP) (optime : CP16Time2a) (time : CP24Time2a) (s : State) : Out :=
  addTyped .mEpTc1 ioa (.mEpTc1 oci qdp optime time) s

/-- M_PS_NA_1 (42_io_monitor.md R240). -/
def execMPsNa1 (ioa : Ioa) (scd : SCD) (qds : QDS) (s : State) : Out :=
  addTyped .mPsNa1 ioa (.mPsNa1 scd qds) s

/-- M_ME_ND_1 (42_io_monitor.md R241). -/
def execMMeNd1 (ioa : Ioa) (nva : NVA) (s : State) : Out :=
  addTyped .mMeNd1 ioa (.mMeNd1 nva) s

/-- M_SP_TB_1 (42_io_monitor.md R242). -/
def execMSpTb1 (ioa : Ioa) (siq : SIQ) (time : CP56Time2a) (s : State) : Out :=
  addTyped .mSpTb1 ioa (.mSpTb1 siq time) s

/-- M_DP_TB_1 (42_io_monitor.md R243). -/
def execMDpTb1 (ioa : Ioa) (diq : DIQ) (time : CP56Time2a) (s : State) : Out :=
  addTyped .mDpTb1 ioa (.mDpTb1 diq time) s

/-- M_ST_TB_1 (42_io_monitor.md R244). -/
def execMStTb1 (ioa : Ioa) (vti : VTI) (qds : QDS) (time : CP56Time2a) (s : State) : Out :=
  addTyped .mStTb1 ioa (.mStTb1 vti qds time) s

/-- M_BO_TB_1 (42_io_monitor.md R245). -/
def execMBoTb1 (ioa : Ioa) (bsi : BSI) (qds : QDS) (time : CP56Time2a) (s : State) : Out :=
  addTyped .mBoTb1 ioa (.mBoTb1 bsi qds time) s

/-- M_ME_TD_1 (42_io_monitor.md R246). -/
def execMMeTd1 (ioa : Ioa) (nva : NVA) (qds : QDS) (time : CP56Time2a) (s : State) : Out :=
  addTyped .mMeTd1 ioa (.mMeTd1 nva qds time) s

/-- M_ME_TE_1 (42_io_monitor.md R247). -/
def execMMeTe1 (ioa : Ioa) (sva : SVA) (qds : QDS) (time : CP56Time2a) (s : State) : Out :=
  addTyped .mMeTe1 ioa (.mMeTe1 sva qds time) s

/-- M_ME_TF_1 (42_io_monitor.md R248). -/
def execMMeTf1 (ioa : Ioa) (r32 : R32) (qds : QDS) (time : CP56Time2a) (s : State) : Out :=
  addTyped .mMeTf1 ioa (.mMeTf1 r32 qds time) s

/-- M_IT_TB_1 (42_io_monitor.md R249). -/
def execMItTb1 (ioa : Ioa) (bcr : BCR) (time : CP56Time2a) (s : State) : Out :=
  addTyped .mItTb1 ioa (.mItTb1 bcr time) s

/-- M_EP_TD_1 (42_io_monitor.md R250). -/
def execMEpTd1 (ioa : Ioa) (sep : SEP) (elapsed : CP16Time2a) (time : CP56Time2a) (s : State) : Out :=
  addTyped .mEpTd1 ioa (.mEpTd1 sep elapsed time) s

/-- M_EP_TE_1 (42_io_monitor.md R251). -/
def execMEpTe1 (ioa : Ioa) (spe : SPE) (qdp : QDP) (duration : CP16Time2a) (time : CP56Time2a) (s : State) : Out :=
  addTyped .mEpTe1 ioa (.mEpTe1 spe qdp duration time) s

/-- M_EP_TF_1 (42_io_monitor.md R252). -/
def execMEpTf1 (ioa : Ioa) (oci : OCI) (qdp : QDP) (optime : CP16Time2a) (time : CP56Time2a) (s : State) : Out :=
  addTyped .mEpTf1 ioa (.mEpTf1 oci qdp optime time) s

end Sys2Proof.Machine
end

