-- ==== Sys2Proof/Machine/RowsControl.lean ====
section
/-! DEFINITION. The rows of the type identifiers, control, system, parameter and file types (43_io_control_file.md R270 to R304), as instructions:
ASDU_ADD_IO of an object of the type (log entry 2). -/

namespace Sys2Proof.Machine

/-- C_SC_NA_1 (43_io_control_file.md R270). -/
def execCScNa1 (ioa : Ioa) (sco : SCO) (s : State) : Out :=
  addTyped .cScNa1 ioa (.cScNa1 sco) s

/-- C_DC_NA_1 (43_io_control_file.md R271). -/
def execCDcNa1 (ioa : Ioa) (dco : DCO) (s : State) : Out :=
  addTyped .cDcNa1 ioa (.cDcNa1 dco) s

/-- C_RC_NA_1 (43_io_control_file.md R272). -/
def execCRcNa1 (ioa : Ioa) (rco : RCO) (s : State) : Out :=
  addTyped .cRcNa1 ioa (.cRcNa1 rco) s

/-- C_SE_NA_1 (43_io_control_file.md R273). -/
def execCSeNa1 (ioa : Ioa) (nva : NVA) (qos : QOS) (s : State) : Out :=
  addTyped .cSeNa1 ioa (.cSeNa1 nva qos) s

/-- C_SE_NB_1 (43_io_control_file.md R274). -/
def execCSeNb1 (ioa : Ioa) (sva : SVA) (qos : QOS) (s : State) : Out :=
  addTyped .cSeNb1 ioa (.cSeNb1 sva qos) s

/-- C_SE_NC_1 (43_io_control_file.md R275). -/
def execCSeNc1 (ioa : Ioa) (r32 : R32) (qos : QOS) (s : State) : Out :=
  addTyped .cSeNc1 ioa (.cSeNc1 r32 qos) s

/-- C_BO_NA_1 (43_io_control_file.md R276). -/
def execCBoNa1 (ioa : Ioa) (bsi : BSI) (s : State) : Out :=
  addTyped .cBoNa1 ioa (.cBoNa1 bsi) s

/-- C_SC_TA_1 (43_io_control_file.md R277). -/
def execCScTa1 (ioa : Ioa) (sco : SCO) (time : CP56Time2a) (s : State) : Out :=
  addTyped .cScTa1 ioa (.cScTa1 sco time) s

/-- C_DC_TA_1 (43_io_control_file.md R278). -/
def execCDcTa1 (ioa : Ioa) (dco : DCO) (time : CP56Time2a) (s : State) : Out :=
  addTyped .cDcTa1 ioa (.cDcTa1 dco time) s

/-- C_RC_TA_1 (43_io_control_file.md R279). -/
def execCRcTa1 (ioa : Ioa) (rco : RCO) (time : CP56Time2a) (s : State) : Out :=
  addTyped .cRcTa1 ioa (.cRcTa1 rco time) s

/-- C_SE_TA_1 (43_io_control_file.md R280). -/
def execCSeTa1 (ioa : Ioa) (nva : NVA) (qos : QOS) (time : CP56Time2a) (s : State) : Out :=
  addTyped .cSeTa1 ioa (.cSeTa1 nva qos time) s

/-- C_SE_TB_1 (43_io_control_file.md R281). -/
def execCSeTb1 (ioa : Ioa) (sva : SVA) (qos : QOS) (time : CP56Time2a) (s : State) : Out :=
  addTyped .cSeTb1 ioa (.cSeTb1 sva qos time) s

/-- C_SE_TC_1 (43_io_control_file.md R282). -/
def execCSeTc1 (ioa : Ioa) (r32 : R32) (qos : QOS) (time : CP56Time2a) (s : State) : Out :=
  addTyped .cSeTc1 ioa (.cSeTc1 r32 qos time) s

/-- C_BO_TA_1 (43_io_control_file.md R283). -/
def execCBoTa1 (ioa : Ioa) (bsi : BSI) (time : CP56Time2a) (s : State) : Out :=
  addTyped .cBoTa1 ioa (.cBoTa1 bsi time) s

/-- M_EI_NA_1 (43_io_control_file.md R284). -/
def execMEiNa1 (ioa : Ioa) (coi : COI) (s : State) : Out :=
  addTyped .mEiNa1 ioa (.mEiNa1 coi) s

/-- C_IC_NA_1 (43_io_control_file.md R285). -/
def execCIcNa1 (ioa : Ioa) (qoi : QOI) (s : State) : Out :=
  addTyped .cIcNa1 ioa (.cIcNa1 qoi) s

/-- C_CI_NA_1 (43_io_control_file.md R286). -/
def execCCiNa1 (ioa : Ioa) (qcc : QCC) (s : State) : Out :=
  addTyped .cCiNa1 ioa (.cCiNa1 qcc) s

/-- C_RD_NA_1 (43_io_control_file.md R287). -/
def execCRdNa1 (ioa : Ioa) (s : State) : Out :=
  addTyped .cRdNa1 ioa .cRdNa1 s

/-- C_CS_NA_1 (43_io_control_file.md R288). -/
def execCCsNa1 (ioa : Ioa) (time : CP56Time2a) (s : State) : Out :=
  addTyped .cCsNa1 ioa (.cCsNa1 time) s

/-- C_TS_NA_1 (43_io_control_file.md R289). -/
def execCTsNa1 (ioa : Ioa) (fbp : FBP) (s : State) : Out :=
  addTyped .cTsNa1 ioa (.cTsNa1 fbp) s

/-- C_RP_NA_1 (43_io_control_file.md R290). -/
def execCRpNa1 (ioa : Ioa) (qrp : QRP) (s : State) : Out :=
  addTyped .cRpNa1 ioa (.cRpNa1 qrp) s

/-- C_CD_NA_1 (43_io_control_file.md R291). -/
def execCCdNa1 (ioa : Ioa) (delay : CP16Time2a) (s : State) : Out :=
  addTyped .cCdNa1 ioa (.cCdNa1 delay) s

/-- C_TS_TA_1 (43_io_control_file.md R292). -/
def execCTsTa1 (ioa : Ioa) (tsc : TSC) (time : CP56Time2a) (s : State) : Out :=
  addTyped .cTsTa1 ioa (.cTsTa1 tsc time) s

/-- P_ME_NA_1 (43_io_control_file.md R293). -/
def execPMeNa1 (ioa : Ioa) (nva : NVA) (qpm : QPM) (s : State) : Out :=
  addTyped .pMeNa1 ioa (.pMeNa1 nva qpm) s

/-- P_ME_NB_1 (43_io_control_file.md R294). -/
def execPMeNb1 (ioa : Ioa) (sva : SVA) (qpm : QPM) (s : State) : Out :=
  addTyped .pMeNb1 ioa (.pMeNb1 sva qpm) s

/-- P_ME_NC_1 (43_io_control_file.md R295). -/
def execPMeNc1 (ioa : Ioa) (r32 : R32) (qpm : QPM) (s : State) : Out :=
  addTyped .pMeNc1 ioa (.pMeNc1 r32 qpm) s

/-- P_AC_NA_1 (43_io_control_file.md R296). -/
def execPAcNa1 (ioa : Ioa) (qpa : QPA) (s : State) : Out :=
  addTyped .pAcNa1 ioa (.pAcNa1 qpa) s

/-- F_FR_NA_1 (43_io_control_file.md R297). -/
def execFFrNa1 (ioa : Ioa) (nof : NOF) (lof : LOF) (frq : FRQ) (s : State) : Out :=
  addTyped .fFrNa1 ioa (.fFrNa1 nof lof frq) s

/-- F_SR_NA_1 (43_io_control_file.md R298). -/
def execFSrNa1 (ioa : Ioa) (nof : NOF) (nos : NOS) (lof : LOF) (srq : SRQ) (s : State) : Out :=
  addTyped .fSrNa1 ioa (.fSrNa1 nof nos lof srq) s

/-- F_SC_NA_1 (43_io_control_file.md R299). -/
def execFScNa1 (ioa : Ioa) (nof : NOF) (nos : NOS) (scq : SCQ) (s : State) : Out :=
  addTyped .fScNa1 ioa (.fScNa1 nof nos scq) s

/-- F_LS_NA_1 (43_io_control_file.md R300). -/
def execFLsNa1 (ioa : Ioa) (nof : NOF) (nos : NOS) (lsq : LSQ) (chs : CHS) (s : State) : Out :=
  addTyped .fLsNa1 ioa (.fLsNa1 nof nos lsq chs) s

/-- F_AF_NA_1 (43_io_control_file.md R301). -/
def execFAfNa1 (ioa : Ioa) (nof : NOF) (nos : NOS) (afq : AFQ) (s : State) : Out :=
  addTyped .fAfNa1 ioa (.fAfNa1 nof nos afq) s

/-- F_SG_NA_1 (43_io_control_file.md R302). -/
def execFSgNa1 (ioa : Ioa) (nof : NOF) (nos : NOS) (seg : List Byte) (s : State) : Out :=
  addTyped .fSgNa1 ioa (.fSgNa1 nof nos seg) s

/-- F_DR_TA_1 (43_io_control_file.md R303). -/
def execFDrTa1 (ioa : Ioa) (nof : NOF) (lof : LOF) (sof : SOF) (time : CP56Time2a) (s : State) : Out :=
  addTyped .fDrTa1 ioa (.fDrTa1 nof lof sof time) s

/-- F_SC_NB_1 (43_io_control_file.md R304). -/
def execFScNb1 (ioa : Ioa) (nof : NOF) (start : CP56Time2a) (stop : CP56Time2a) (s : State) : Out :=
  addTyped .fScNb1 ioa (.fScNb1 nof start stop) s

end Sys2Proof.Machine
end

