-- ==== Sys2Proof/Machine/Ft12.lean ====
section
/-! DEFINITION. The FT1.2 unit (45_ft12_link.md): the encoders (R362 to R364), the decoder (R365), and the reception of
one frame, which is what a frame format row or a function code row means as an instruction (log entries 2 and 21). -/

namespace Sys2Proof.Machine

/-! ## Frames -/

/-- A fixed-length frame `10 C A CS 16` (45_ft12_link.md R360). -/
def fixedFrame (c : Byte) (a : List Byte) : List Byte :=
  [0x10#8, c] ++ a ++ [sum8 (c :: a), 0x16#8]

/-- A variable-length frame `68 L L 68 C A UD CS 16` (45_ft12_link.md R360). -/
def variableFrame (c : Byte) (a ud : List Byte) : List Byte :=
  let l := BitVec.ofNat 8 (1 + a.length + ud.length)
  [0x68#8, l, l, 0x68#8, c] ++ a ++ ud ++ [sum8 (c :: a ++ ud), 0x16#8]

/-- Write a frame to TXBUF from address 0 and set TX_LEN (45_ft12_link.md R362 to R364, 46_apci.md R426 to R428). -/
def State.send (s : State) (frame : List Byte) (k : State → Out) : Out :=
  s.store .txbuf 0 frame fun t => k { t with txLen := BitVec.ofNat 16 frame.length }

/-! ## Encoders -/

/-- FT12_ENC_FIXED (45_ft12_link.md R362). -/
def execFt12EncFixed (c : Byte) (a : BitVec 16) (s : State) : Out :=
  s.configured fun cfg =>
  s.check (a.toNat < 2 ^ (8 * cfg.linkAddrLen)) .fieldRange a <|
  s.send (fixedFrame c (leOctets cfg.linkAddrLen a.toNat)) State.finish

/-- FT12_ENC_VAR (45_ft12_link.md R363). -/
def execFt12EncVar (c : Byte) (a : BitVec 16) (s : State) : Out :=
  s.configured fun cfg =>
  s.check (a.toNat < 2 ^ (8 * cfg.linkAddrLen)) .fieldRange a <|
  s.check (1 ≤ s.asduLen.toNat) .noAsdu 0#16 <|
  s.check (s.asduLen.toNat ≤ 254 - cfg.linkAddrLen) .ft12TooLong (s.asduLen.setWidth 16) <|
  s.load .abuf 0 s.asduLen.toNat fun ud =>
  s.send (variableFrame c (leOctets cfg.linkAddrLen a.toNat) ud) State.finish

/-- FT12_ENC_SINGLE (45_ft12_link.md R364). -/
def execFt12EncSingle (s : State) : Out := s.configured fun _ => s.send [0xE5#8] State.finish

/-! ## Decoder -/

/-- What FT12_DECODE finds in the octets of a frame. -/
inductive FrameParse where
  /-- FT12_FRAMING with its info. -/
  | framing (info : Nat)
  /-- FT12_CHECKSUM with its info. -/
  | checksum (info : Nat)
  | single
  /-- Control octet and link address. -/
  | fixed (c : Byte) (a : Nat)
  /-- Control octet, link address and the length of the user data. -/
  | variable (c : Byte) (a udLen : Nat)
deriving DecidableEq, Repr

/-- The checks of a frame that starts with 0x10, in order (45_ft12_link.md R365); `n` is LINK_ADDR_LEN. -/
def parseFixed (n : Nat) (os : List Byte) : FrameParse :=
  if os.length ≠ 4 + n then .framing os.length
  else if octet os (os.length - 1) ≠ 0x16#8 then .framing (os.length - 1)
  else if octet os (2 + n) ≠ sum8 (slice os 1 (1 + n)) then .checksum (2 + n)
  else .fixed (octet os 1) (fromLE (slice os 2 n))

/-- The checks of a frame that starts with 0x68, in order (45_ft12_link.md R365); `n` is LINK_ADDR_LEN. -/
def parseVariable (n : Nat) (os : List Byte) : FrameParse :=
  let l := (octet os 1).toNat
  if os.length < 6 then .framing os.length
  else if octet os 2 ≠ octet os 1 then .framing 2
  else if octet os 3 ≠ 0x68#8 then .framing 3
  else if l < 1 + n then .framing 1
  else if os.length ≠ l + 6 then .framing os.length
  else if octet os (os.length - 1) ≠ 0x16#8 then .framing (os.length - 1)
  else if octet os (4 + l) ≠ sum8 (slice os 4 l) then .checksum (4 + l)
  else .variable (octet os 4) (fromLE (slice os 5 n)) (l - 1 - n)

/-- Checks 2 and 3 of FT12_DECODE (45_ft12_link.md R365); `n` is LINK_ADDR_LEN. -/
def parseFrame (n : Nat) (os : List Byte) : FrameParse :=
  match os with
  | [] => .framing 0
  | start :: _ =>
    if start = 0xE5#8 then (if os.length = 1 then .single else .framing 1)
    else if start = 0x10#8 then parseFixed n os
    else if start = 0x68#8 then parseVariable n os
    else .framing 0

/-- The F_* registers of a decoded frame (45_ft12_link.md R365, 10_state.md R42, R43). -/
def linkOf (mode : LinkMode) (kind : FrameKind) (c : Byte) (a udOff udLen : Nat) : LinkRx :=
  { valid := true, kind := kind, c := c, a := BitVec.ofNat 16 a, udOff := BitVec.ofNat 16 udOff,
    udLen := BitVec.ofNat 8 udLen, b7 := c.extractLsb' 7 1, prm := c.extractLsb' 6 1, b5 := c.extractLsb' 5 1,
    b4 := c.extractLsb' 4 1, fc := c.extractLsb' 0 4,
    fclass := if kind = .single then .none else fclass mode (c.extractLsb' 6 1) (c.extractLsb' 0 4) }

/-- FT12_DECODE of the octets that its operand names, once they are read (45_ft12_link.md R365). -/
def takeFrame (cfg : Config) (os : List Byte) (s : State) : Out :=
  match parseFrame cfg.linkAddrLen os with
  | .framing info => { s with link.valid := false }.raise .ft12Framing (BitVec.ofNat 16 info)
  | .checksum info => { s with link.valid := false }.raise .ft12Checksum (BitVec.ofNat 16 info)
  | .single => { s with link := linkOf cfg.linkMode .single 0#8 0 0 0 }.finish
  | .fixed c a => { s with link := linkOf cfg.linkMode .fixed c a 0 0 }.finish
  | .variable c a udLen => { s with link := linkOf cfg.linkMode .variable c a (5 + cfg.linkAddrLen) udLen }.finish

/-- The operation of FT12_DECODE (45_ft12_link.md R365), which every reception of an FT1.2 frame shares. -/
def decodeFrame (len : BitVec 16) (s : State) : Out :=
  s.configured fun cfg =>
  { s with link.valid := false }.check (len.toNat ≤ Buf.rxbuf.size) .operandRange 0#16 <|
  s.load .rxbuf 0 len.toNat fun os => takeFrame cfg os s

/-- FT12_DECODE (45_ft12_link.md R365). -/
def execFt12Decode (len : BitVec 16) (s : State) : Out := decodeFrame len s

/-! ## Reception of one frame (log entries 2 and 21) -/

/-- The host puts a frame at RXBUF[0..] and issues FT12_DECODE with its length. -/
def receiveFrame (frame : List Byte) (s : State) : Out :=
  s.deliver frame fun t => decodeFrame (BitVec.ofNat 16 frame.length) t

/-- Reception of a fixed-length frame with a control octet and link address octets (45_ft12_link.md R360). -/
def receiveFixed (c : Byte) (addr : List Byte) (s : State) : Out := receiveFrame (fixedFrame c addr) s

/-- Reception of a variable-length frame with a control octet, link address octets and user data
(45_ft12_link.md R360). -/
def receiveVariable (c : Byte) (addr ud : List Byte) (s : State) : Out := receiveFrame (variableFrame c addr ud) s

end Sys2Proof.Machine
end

