-- ==== Sys2Proof/Machine/Apci.lean ====
section
/-! DEFINITION. The APCI unit (46_apci.md): the window (R414, R415), APCI_RECEIVE (R417 to R425), the commands that send
(R426 to R428), APCI_RESET (R429) and the STOPDT completion (R430); and the reception of one APDU, which is what a
format row means as an instruction (log entry 2). -/

namespace Sys2Proof.Machine

/-! ## The window -/

/-- The sequence number of the oldest unconfirmed sent I-frame (46_apci.md R414). -/
def Apci.oldest (a : Apci) : SeqNo := a.vs - BitVec.ofNat 15 a.winCount

/-- Is a received N(R) valid (46_apci.md R414)? -/
def Apci.nrValid (a : Apci) (r : SeqNo) : Bool := decide ((a.vs - r).toNat ≤ a.winCount)

/-- The entries that a valid N(R) retires, `k` (46_apci.md R415). -/
def Apci.retireCount (a : Apci) (r : SeqNo) : Nat := if a.winCount = 0 then 0 else (r - a.oldest).toNat

/-- The entry of the ring at an index modulo its length K (10_state.md R48). -/
def Apci.entry (a : Apci) (k : Nat) (idx : Nat) : WinEntry := a.win.getD (idx % k) WinEntry.zero

/-- Retirement by a valid N(R) (46_apci.md R415); `k` is K. -/
def Apci.retire (a : Apci) (k : Nat) (r : SeqNo) : Apci :=
  let n := a.retireCount r
  { a with
    winOldest := (a.winOldest + n) % k
    winCount := a.winCount - n
    rx := { a.rx with
      retired := BitVec.ofNat 15 n
      retiredTag := if 0 < n then (a.entry k (a.winOldest + n - 1)).tag else a.rx.retiredTag } }

/-- STOPDT completion, after every retirement (46_apci.md R430). -/
def Apci.completeStop (a : Apci) (role : ApciRole) : Apci :=
  if a.state = .unconfirmedStopped ∧ a.winCount = 0 ∧ role = .controlled then
    { a with state := .stopped, respStopdtCon := true }
  else a

/-! ## APCI_RECEIVE -/

/-- The receive-result registers of an accepted frame, before any retirement (46_apci.md R418, R419, section 3.1).
A_RETIRED_TAG keeps its value. -/
def Apci.heard (a : Apci) (kind : AKind) (ns nr : SeqNo) (ufn : Option Ufn) (off : BitVec 16) (len : Byte) : Apci :=
  { a with rx := { kind := kind, ns := ns, nr := nr, ufn := ufn, asduOff := off, asduLen := len, retired := 0#15,
                   retiredTag := a.rx.retiredTag } }

/-- `VR <- (VR + 1) mod 32768 ; UNACK_RX <- min(UNACK_RX + 1, 32767)` (46_apci.md R418). -/
def Apci.countRx (a : Apci) : Apci := { a with vr := a.vr + 1#15, unackRx := incSaturating a.unackRx }

/-- The unit after an accepted I-frame with `n` octets of ASDU (46_apci.md R418). -/
def Apci.acceptI (a : Apci) (c : Config) (ns nr : SeqNo) (n : Nat) : Apci :=
  (((a.heard .i ns nr none 6#16 (BitVec.ofNat 8 n)).retire c.k nr).completeStop c.apciRole).countRx

/-- The unit after an accepted S-frame (46_apci.md R419). -/
def Apci.acceptS (a : Apci) (c : Config) (nr : SeqNo) : Apci :=
  ((a.heard .s 0#15 nr none 0#16 0#8).retire c.k nr).completeStop c.apciRole

/-- A received I-frame with `n` octets of ASDU (46_apci.md R418). -/
def receiveI (c : Config) (ns nr : SeqNo) (n : Nat) (s : State) : Out :=
  s.check (s.apci.state ≠ .stopped) .stateError 0#16 <|
  s.check (ns = s.apci.vr) .sequenceError (ns.setWidth 16) <|
  s.check (s.apci.nrValid nr = true) .windowError (nr.setWidth 16) <|
  { s with apci := s.apci.acceptI c ns nr n }.finish

/-- A received S-frame (46_apci.md R419). -/
def receiveS (c : Config) (nr : SeqNo) (s : State) : Out :=
  s.check (s.apci.state ≠ .stopped) .stateError 0#16 <|
  s.check (s.apci.nrValid nr = true) .windowError (nr.setWidth 16) <|
  { s with apci := s.apci.acceptS c nr }.finish

/-- What a received U-frame does in a role and a state (46_apci.md R420 to R425); nothing where it is unexpected. -/
def uEffect? (role : ApciRole) (a : Apci) : Ufn → Option Apci
  | .startdtAct =>
    if role = .controlled ∧ a.state = .stopped then some { a with state := .started, respStartdtCon := true }
    else if role = .controlled ∧ a.state = .started then some { a with respStartdtCon := true }
    else none
  | .startdtCon =>
    if role = .controlling ∧ a.startdtPending = true then some { a with startdtPending := false, state := .started }
    else none
  | .stopdtAct =>
    if role = .controlled ∧ (a.state = .started ∨ a.state = .unconfirmedStopped) then
      if a.winCount = 0 then some { a with state := .stopped, respStopdtCon := true }
      else some { a with state := .unconfirmedStopped }
    else if role = .controlled ∧ a.state = .stopped then some { a with respStopdtCon := true }
    else none
  | .stopdtCon =>
    if role = .controlling ∧ a.stopdtPending = true then some { a with stopdtPending := false, state := .stopped }
    else none
  | .testfrAct => some { a with respTestfrCon := true }
  | .testfrCon => if a.testOutstanding = true then some { a with testOutstanding := false } else none

/-- A received U-frame (46_apci.md section 3.1): the A_* registers are written in every case, and U_UNEXPECTED is the
status where the function is not expected. -/
def receiveU (c : Config) (fn : Ufn) (s : State) : Out :=
  match uEffect? c.apciRole (s.apci.heard .u 0#15 0#15 (some fn) 0#16 0#8) fn with
  | some a => { s with apci := a }.finish
  | none =>
    { s with apci := s.apci.heard .u 0#15 0#15 (some fn) 0#16 0#8 }.raise .uUnexpected ((ufnCode fn).setWidth 16)

/-- The checks from 3 on of APCI_RECEIVE, and what the frame does (46_apci.md R417). -/
def takeApdu (c : Config) (os : List Byte) (s : State) : Out :=
  let len := (octet os 1).toNat
  s.check (6 ≤ os.length) .framingError (BitVec.ofNat 16 os.length) <|
  s.check (octet os 0 = 0x68#8) .framingError 0#16 <|
  s.check (4 ≤ len ∧ len ≤ 253 ∧ os.length = len + 2) .framingError 1#16 <|
  match classify (octet os 2) with
  | .i => receiveI c (seqOf (octet os 2) (octet os 3)) (seqOf (octet os 4) (octet os 5)) (len - 4) s
  | .s => s.check (len = 4) .framingError 1#16 <| receiveS c (seqOf (octet os 4) (octet os 5)) s
  | .u fn => s.check (len = 4) .framingError 1#16 <| receiveU c fn s
  | .none => s.check (len = 4) .framingError 1#16 <| s.raise .framingError 2#16

/-- The operation of APCI_RECEIVE (46_apci.md R417), which every reception of an APDU shares. -/
def receiveApdu (len : BitVec 16) (s : State) : Out :=
  s.configured fun c =>
  s.check (s.apci.state ≠ .faulted) .apciFaulted 0#16 <|
  s.check (len.toNat ≤ Buf.rxbuf.size) .operandRange 0#16 <|
  s.load .rxbuf 0 len.toNat fun os => takeApdu c os s

/-- APCI_RECEIVE (46_apci.md R417). -/
def execApciReceive (len : BitVec 16) (s : State) : Out := receiveApdu len s

/-! ## Sending -/

/-- The octets of an I-frame (46_apci.md R426, R413). -/
def iFrameOctets (ns nr : SeqNo) (asdu : List Byte) : List Byte :=
  [0x68#8, BitVec.ofNat 8 (4 + asdu.length), seqLo ns, seqHi ns, seqLo nr, seqHi nr] ++ asdu

/-- The octets of an S-frame (46_apci.md R427, R413). -/
def sFrameOctets (nr : SeqNo) : List Byte := [0x68#8, 0x04#8, 0x01#8, 0x00#8, seqLo nr, seqHi nr]

/-- The octets of a U-frame (46_apci.md R428). -/
def uFrameOctets (fn : Ufn) : List Byte := [0x68#8, 0x04#8, ufnCode fn, 0x00#8, 0x00#8, 0x00#8]

/-- A new entry at the end of the window, and the counters, after an I-frame was built (46_apci.md R426); `k` is K. -/
def Apci.sent (a : Apci) (k : Nat) (tag : Tag) : Apci :=
  { a with
    win := a.win.set ((a.winOldest + a.winCount) % k) { seq := a.vs, tag := tag }
    winCount := a.winCount + 1
    vs := a.vs + 1#15
    unackRx := 0#15 }

/-- APCI_SEND_I (46_apci.md R426). -/
def execApciSendI (tag : Tag) (s : State) : Out :=
  s.configured fun c =>
  s.check (s.apci.state ≠ .faulted) .apciFaulted 0#16 <|
  s.check (s.apci.state = .started) .notStarted 0#16 <|
  s.check (s.apci.winCount < c.k) .windowFull (BitVec.ofNat 16 s.apci.winCount) <|
  s.check (1 ≤ s.asduLen.toNat) .noAsdu 0#16 <|
  s.check (s.asduLen.toNat ≤ 249) .frameTooLong (s.asduLen.setWidth 16) <|
  s.load .abuf 0 s.asduLen.toNat fun asdu =>
  s.send (iFrameOctets s.apci.vs s.apci.vr asdu) fun t => { t with apci := s.apci.sent c.k tag }.finish

/-- APCI_SEND_S (46_apci.md R427). -/
def execApciSendS (s : State) : Out :=
  s.configured fun _ =>
  s.check (s.apci.state ≠ .faulted) .apciFaulted 0#16 <|
  s.check (s.apci.state ≠ .stopped) .notStarted 0#16 <|
  s.send (sFrameOctets s.apci.vr) fun t => { t with apci.unackRx := 0#15 }.finish

/-- Whether a U-frame function may be sent, and what sending it starts (46_apci.md R428). -/
def uSend? (role : ApciRole) (a : Apci) : Ufn → Option Apci
  | .startdtAct =>
    if role = .controlling ∧ a.state = .stopped ∧ a.startdtPending = false then some { a with startdtPending := true }
    else none
  | .stopdtAct =>
    if role = .controlling ∧ a.state = .started ∧ a.stopdtPending = false then
      some { a with stopdtPending := true, state := .unconfirmedStopped }
    else none
  | .startdtCon =>
    if role = .controlled ∧ a.respStartdtCon = true then some { a with respStartdtCon := false } else none
  | .stopdtCon =>
    if role = .controlled ∧ a.respStopdtCon = true then some { a with respStopdtCon := false } else none
  | .testfrAct => some { a with testOutstanding := true }
  | .testfrCon => if a.respTestfrCon = true then some { a with respTestfrCon := false } else none

/-- APCI_SEND_U (46_apci.md R428). -/
def execApciSendU (fn : Ufn) (s : State) : Out :=
  s.configured fun c =>
  s.check (s.apci.state ≠ .faulted) .apciFaulted 0#16 <|
  match uSend? c.apciRole s.apci fn with
  | none => s.raise .uUnexpected ((ufnCode fn).setWidth 16)
  | some a => s.send (uFrameOctets fn) fun t => { t with apci := a }.finish

/-- The APCI unit of a new connection (46_apci.md R429): every register of the unit but the ring's entries and
A_RETIRED_TAG, which the rule does not write. -/
def Apci.fresh (a : Apci) : Apci :=
  { Apci.reset with win := a.win, rx := { ApciRx.reset with retiredTag := a.rx.retiredTag } }

/-- APCI_RESET (46_apci.md R429). -/
def execApciReset (s : State) : Out := s.configured fun _ => { s with apci := s.apci.fresh }.finish

/-! ## Reception of one APDU (log entry 2) -/

/-- An APDU from its control octets and what follows them (30_encoding.md R110). -/
def apduOctets (ctrl1 ctrl2 ctrl3 ctrl4 : Byte) (tail : List Byte) : List Byte :=
  [0x68#8, BitVec.ofNat 8 (4 + tail.length), ctrl1, ctrl2, ctrl3, ctrl4] ++ tail

/-- The host puts an APDU at RXBUF[0..] and issues APCI_RECEIVE with its length. -/
def receiveFormat (ctrl1 ctrl2 ctrl3 ctrl4 : Byte) (tail : List Byte) (s : State) : Out :=
  let frame := apduOctets ctrl1 ctrl2 ctrl3 ctrl4 tail
  s.deliver frame fun t => receiveApdu (BitVec.ofNat 16 frame.length) t

end Sys2Proof.Machine
end

