-- ==== Sys2Proof/Machine/RowsFrame.lean ====
section
/-! DEFINITION. The rows of the APDU formats (46_apci.md R418 to R425), the FT1.2 frame formats (45_ft12_link.md R360) and
the FT1.2 function codes (45_ft12_link.md R370 to R395), as instructions: the reception of one such frame (log entries
2 and 21). -/

namespace Sys2Proof.Machine

/-! ## APDU formats -/

/-- I_FRAME (46_apci.md R418): ctrl1 is `{ns7, 0}`. -/
def execIFrame (ns7 : BitVec 7) (ctrl2 ctrl3 ctrl4 : Byte) (tail : List Byte) (s : State) : Out :=
  receiveFormat (ns7 ++ 0#1) ctrl2 ctrl3 ctrl4 tail s

/-- S_FRAME (46_apci.md R419). -/
def execSFrame (ctrl2 ctrl3 ctrl4 : Byte) (tail : List Byte) (s : State) : Out :=
  receiveFormat 0x01#8 ctrl2 ctrl3 ctrl4 tail s

/-- U_STARTDT_ACT (46_apci.md R420). -/
def execUStartdtAct (ctrl2 ctrl3 ctrl4 : Byte) (tail : List Byte) (s : State) : Out :=
  receiveFormat (ufnCode .startdtAct) ctrl2 ctrl3 ctrl4 tail s

/-- U_STARTDT_CON (46_apci.md R421). -/
def execUStartdtCon (ctrl2 ctrl3 ctrl4 : Byte) (tail : List Byte) (s : State) : Out :=
  receiveFormat (ufnCode .startdtCon) ctrl2 ctrl3 ctrl4 tail s

/-- U_STOPDT_ACT (46_apci.md R422). -/
def execUStopdtAct (ctrl2 ctrl3 ctrl4 : Byte) (tail : List Byte) (s : State) : Out :=
  receiveFormat (ufnCode .stopdtAct) ctrl2 ctrl3 ctrl4 tail s

/-- U_STOPDT_CON (46_apci.md R423). -/
def execUStopdtCon (ctrl2 ctrl3 ctrl4 : Byte) (tail : List Byte) (s : State) : Out :=
  receiveFormat (ufnCode .stopdtCon) ctrl2 ctrl3 ctrl4 tail s

/-- U_TESTFR_ACT (46_apci.md R424). -/
def execUTestfrAct (ctrl2 ctrl3 ctrl4 : Byte) (tail : List Byte) (s : State) : Out :=
  receiveFormat (ufnCode .testfrAct) ctrl2 ctrl3 ctrl4 tail s

/-- U_TESTFR_CON (46_apci.md R425). -/
def execUTestfrCon (ctrl2 ctrl3 ctrl4 : Byte) (tail : List Byte) (s : State) : Out :=
  receiveFormat (ufnCode .testfrCon) ctrl2 ctrl3 ctrl4 tail s

/-! ## FT1.2 frame formats -/

/-- FT12_FIXED (45_ft12_link.md R360): a frame that starts with 0x10. -/
def execFt12Fixed (tail : List Byte) (s : State) : Out := receiveFrame (0x10#8 :: tail) s

/-- FT12_VARIABLE (45_ft12_link.md R360): a frame that starts with 0x68. -/
def execFt12Variable (tail : List Byte) (s : State) : Out := receiveFrame (0x68#8 :: tail) s

/-- FT12_SINGLE (45_ft12_link.md R360): a frame that starts with 0xE5. -/
def execFt12Single (tail : List Byte) (s : State) : Out := receiveFrame (0xE5#8 :: tail) s

/-! ## FT1.2 function codes -/

/-- PRI_RESET_REMOTE_LINK, unbalanced (45_ft12_link.md R370). -/
def execUnbPriResetRemoteLink (bit7 fcb fcv : BitVec 1) (addr : List Byte) (s : State) : Out :=
  receiveFixed (ctlOctet bit7 1#1 fcb fcv 0#4) addr s

/-- PRI_RESET_USER_PROCESS, unbalanced (45_ft12_link.md R371). -/
def execUnbPriResetUserProcess (bit7 fcb fcv : BitVec 1) (addr : List Byte) (s : State) : Out :=
  receiveFixed (ctlOctet bit7 1#1 fcb fcv 1#4) addr s

/-- PRI_USER_DATA_CONFIRM, unbalanced (45_ft12_link.md R372). -/
def execUnbPriUserDataConfirm (bit7 fcb fcv : BitVec 1) (addr ud : List Byte) (s : State) : Out :=
  receiveVariable (ctlOctet bit7 1#1 fcb fcv 3#4) addr ud s

/-- PRI_USER_DATA_NO_REPLY, unbalanced (45_ft12_link.md R373). -/
def execUnbPriUserDataNoReply (bit7 fcb fcv : BitVec 1) (addr ud : List Byte) (s : State) : Out :=
  receiveVariable (ctlOctet bit7 1#1 fcb fcv 4#4) addr ud s

/-- PRI_REQUEST_ACCESS_DEMAND, unbalanced (45_ft12_link.md R374). -/
def execUnbPriRequestAccessDemand (bit7 fcb fcv : BitVec 1) (addr : List Byte) (s : State) : Out :=
  receiveFixed (ctlOctet bit7 1#1 fcb fcv 8#4) addr s

/-- PRI_REQUEST_LINK_STATUS, unbalanced (45_ft12_link.md R375). -/
def execUnbPriRequestLinkStatus (bit7 fcb fcv : BitVec 1) (addr : List Byte) (s : State) : Out :=
  receiveFixed (ctlOctet bit7 1#1 fcb fcv 9#4) addr s

/-- PRI_REQUEST_CLASS1, unbalanced (45_ft12_link.md R376). -/
def execUnbPriRequestClass1 (bit7 fcb fcv : BitVec 1) (addr : List Byte) (s : State) : Out :=
  receiveFixed (ctlOctet bit7 1#1 fcb fcv 10#4) addr s

/-- PRI_REQUEST_CLASS2, unbalanced (45_ft12_link.md R377). -/
def execUnbPriRequestClass2 (bit7 fcb fcv : BitVec 1) (addr : List Byte) (s : State) : Out :=
  receiveFixed (ctlOctet bit7 1#1 fcb fcv 11#4) addr s

/-- PRI_RESET_REMOTE_LINK, balanced (45_ft12_link.md R378). -/
def execBalPriResetRemoteLink (bit7 fcb fcv : BitVec 1) (addr : List Byte) (s : State) : Out :=
  receiveFixed (ctlOctet bit7 1#1 fcb fcv 0#4) addr s

/-- PRI_RESET_USER_PROCESS, balanced (45_ft12_link.md R379). -/
def execBalPriResetUserProcess (bit7 fcb fcv : BitVec 1) (addr : List Byte) (s : State) : Out :=
  receiveFixed (ctlOctet bit7 1#1 fcb fcv 1#4) addr s

/-- PRI_TEST_LINK, balanced (45_ft12_link.md R380). -/
def execBalPriTestLink (bit7 fcb fcv : BitVec 1) (addr : List Byte) (s : State) : Out :=
  receiveFixed (ctlOctet bit7 1#1 fcb fcv 2#4) addr s

/-- PRI_USER_DATA_CONFIRM, balanced (45_ft12_link.md R381). -/
def execBalPriUserDataConfirm (bit7 fcb fcv : BitVec 1) (addr ud : List Byte) (s : State) : Out :=
  receiveVariable (ctlOctet bit7 1#1 fcb fcv 3#4) addr ud s

/-- PRI_USER_DATA_NO_REPLY, balanced (45_ft12_link.md R382). -/
def execBalPriUserDataNoReply (bit7 fcb fcv : BitVec 1) (addr ud : List Byte) (s : State) : Out :=
  receiveVariable (ctlOctet bit7 1#1 fcb fcv 4#4) addr ud s

/-- PRI_REQUEST_LINK_STATUS, balanced (45_ft12_link.md R383). -/
def execBalPriRequestLinkStatus (bit7 fcb fcv : BitVec 1) (addr : List Byte) (s : State) : Out :=
  receiveFixed (ctlOctet bit7 1#1 fcb fcv 9#4) addr s

/-- SEC_ACK, unbalanced (45_ft12_link.md R384). -/
def execUnbSecAck (bit7 acd dfc : BitVec 1) (addr : List Byte) (s : State) : Out :=
  receiveFixed (ctlOctet bit7 0#1 acd dfc 0#4) addr s

/-- SEC_NACK_BUSY, unbalanced (45_ft12_link.md R385). -/
def execUnbSecNackBusy (bit7 acd dfc : BitVec 1) (addr : List Byte) (s : State) : Out :=
  receiveFixed (ctlOctet bit7 0#1 acd dfc 1#4) addr s

/-- SEC_USER_DATA, unbalanced (45_ft12_link.md R386). -/
def execUnbSecUserData (bit7 acd dfc : BitVec 1) (addr ud : List Byte) (s : State) : Out :=
  receiveVariable (ctlOctet bit7 0#1 acd dfc 8#4) addr ud s

/-- SEC_NACK_NO_DATA, unbalanced (45_ft12_link.md R387). -/
def execUnbSecNackNoData (bit7 acd dfc : BitVec 1) (addr : List Byte) (s : State) : Out :=
  receiveFixed (ctlOctet bit7 0#1 acd dfc 9#4) addr s

/-- SEC_LINK_STATUS, unbalanced (45_ft12_link.md R388). -/
def execUnbSecLinkStatus (bit7 acd dfc : BitVec 1) (addr : List Byte) (s : State) : Out :=
  receiveFixed (ctlOctet bit7 0#1 acd dfc 11#4) addr s

/-- SEC_LINK_NOT_FUNCTIONING, unbalanced (45_ft12_link.md R389). -/
def execUnbSecLinkNotFunctioning (bit7 acd dfc : BitVec 1) (addr : List Byte) (s : State) : Out :=
  receiveFixed (ctlOctet bit7 0#1 acd dfc 14#4) addr s

/-- SEC_LINK_NOT_IMPLEMENTED, unbalanced (45_ft12_link.md R390). -/
def execUnbSecLinkNotImplemented (bit7 acd dfc : BitVec 1) (addr : List Byte) (s : State) : Out :=
  receiveFixed (ctlOctet bit7 0#1 acd dfc 15#4) addr s

/-- SEC_ACK, balanced (45_ft12_link.md R391). -/
def execBalSecAck (bit7 bit5 dfc : BitVec 1) (addr : List Byte) (s : State) : Out :=
  receiveFixed (ctlOctet bit7 0#1 bit5 dfc 0#4) addr s

/-- SEC_NACK_BUSY, balanced (45_ft12_link.md R392). -/
def execBalSecNackBusy (bit7 bit5 dfc : BitVec 1) (addr : List Byte) (s : State) : Out :=
  receiveFixed (ctlOctet bit7 0#1 bit5 dfc 1#4) addr s

/-- SEC_LINK_STATUS, balanced (45_ft12_link.md R393). -/
def execBalSecLinkStatus (bit7 bit5 dfc : BitVec 1) (addr : List Byte) (s : State) : Out :=
  receiveFixed (ctlOctet bit7 0#1 bit5 dfc 11#4) addr s

/-- SEC_LINK_NOT_FUNCTIONING, balanced (45_ft12_link.md R394). -/
def execBalSecLinkNotFunctioning (bit7 bit5 dfc : BitVec 1) (addr : List Byte) (s : State) : Out :=
  receiveFixed (ctlOctet bit7 0#1 bit5 dfc 14#4) addr s

/-- SEC_LINK_NOT_IMPLEMENTED, balanced (45_ft12_link.md R395). -/
def execBalSecLinkNotImplemented (bit7 bit5 dfc : BitVec 1) (addr : List Byte) (s : State) : Out :=
  receiveFixed (ctlOctet bit7 0#1 bit5 dfc 15#4) addr s

end Sys2Proof.Machine
end

