-- ==== Sys2Proof/Machine/System.lean ====
section
/-! DEFINITION. The system commands: NOP and RESET (70_reset_and_hazards.md R540, R541), and what the block does with
an unassigned opcode (30_encoding.md R102). -/

namespace Sys2Proof.Machine

/-- UNKNOWN_COMMAND of an unassigned opcode (30_encoding.md R102). -/
def unknownCommand (opcode : Byte) (s : State) : Out := s.raise .unknownCommand (opcode.setWidth 16)

/-- NOP (70_reset_and_hazards.md R540). -/
def execNop (s : State) : Out := s.configured fun _ => s.finish

/-- Every register at its reset value under a configuration (70_reset_and_hazards.md R543); the buffers keep their
octets (R541). The entries of WIN are unspecified: log entry 6. -/
def State.resetWith (s : State) (c : Config) : State :=
  { State.reset with
    config := some c
    apci := { Apci.reset with win := List.replicate c.k WinEntry.zero }
    rxbuf := s.rxbuf
    txbuf := s.txbuf
    abuf := s.abuf
    input := s.input }

/-- RESET (70_reset_and_hazards.md R541). -/
def execReset (cfg : ConfigOperand) (s : State) : Out :=
  match cfg.config? with
  | none => s.raise .configError 0#16
  | some c => s.check (c.valid = true) .configError 0#16 (s.resetWith c).finish

end Sys2Proof.Machine
end

