-- ==== Sys2Proof/Machine/Dispatch.lean ====
section
/-! DEFINITION. The meaning of every instruction: one arm per constructor of `Instr`. -/

namespace Sys2Proof.Machine

def exec (i : Instr) (s : State) : Host.Outcome State Fault Refusal :=
  match i with
  | .nop => Sys2Proof.Machine.execNop s
  | .reset cfg => Sys2Proof.Machine.execReset cfg s
  | .asduBegin sq t pn cot oa ca => Sys2Proof.Machine.execAsduBegin sq t pn cot oa ca s
  | .asduAddIo io => Sys2Proof.Machine.execAsduAddIo io s
  | .asduSetRaw type count data => Sys2Proof.Machine.execAsduSetRaw type count data s
  | .asduEncode => Sys2Proof.Machine.execAsduEncode s
  | .asduDecode off len => Sys2Proof.Machine.execAsduDecode off len s
  | .asduGetElement idx => Sys2Proof.Machine.execAsduGetElement idx s
  | .asduRewriteCot cot pn => Sys2Proof.Machine.execAsduRewriteCot cot pn s
  | .ft12EncFixed c a => Sys2Proof.Machine.execFt12EncFixed c a s
  | .ft12EncVar c a => Sys2Proof.Machine.execFt12EncVar c a s
  | .ft12EncSingle => Sys2Proof.Machine.execFt12EncSingle s
  | .ft12Decode len => Sys2Proof.Machine.execFt12Decode len s
  | .apciReceive len => Sys2Proof.Machine.execApciReceive len s
  | .apciSendI tag => Sys2Proof.Machine.execApciSendI tag s
  | .apciSendS => Sys2Proof.Machine.execApciSendS s
  | .apciSendU fn => Sys2Proof.Machine.execApciSendU fn s
  | .apciReset => Sys2Proof.Machine.execApciReset s
  | .chkResetFile => Sys2Proof.Machine.execChkResetFile s
  | .chkBeginSection => Sys2Proof.Machine.execChkBeginSection s
  | .chkAdd buf off len => Sys2Proof.Machine.execChkAdd buf off len s
  | .chkAddElement => Sys2Proof.Machine.execChkAddElement s
  | .chkCheckSection chs => Sys2Proof.Machine.execChkCheckSection chs s
  | .chkCloseSection => Sys2Proof.Machine.execChkCloseSection s
  | .chkCheckFile chs => Sys2Proof.Machine.execChkCheckFile chs s
  | .mSpNa1 ioa siq => Sys2Proof.Machine.execMSpNa1 ioa siq s
  | .mSpTa1 ioa siq time => Sys2Proof.Machine.execMSpTa1 ioa siq time s
  | .mDpNa1 ioa diq => Sys2Proof.Machine.execMDpNa1 ioa diq s
  | .mDpTa1 ioa diq time => Sys2Proof.Machine.execMDpTa1 ioa diq time s
  | .mStNa1 ioa vti qds => Sys2Proof.Machine.execMStNa1 ioa vti qds s
  | .mStTa1 ioa vti qds time => Sys2Proof.Machine.execMStTa1 ioa vti qds time s
  | .mBoNa1 ioa bsi qds => Sys2Proof.Machine.execMBoNa1 ioa bsi qds s
  | .mBoTa1 ioa bsi qds time => Sys2Proof.Machine.execMBoTa1 ioa bsi qds time s
  | .mMeNa1 ioa nva qds => Sys2Proof.Machine.execMMeNa1 ioa nva qds s
  | .mMeTa1 ioa nva qds time => Sys2Proof.Machine.execMMeTa1 ioa nva qds time s
  | .mMeNb1 ioa sva qds => Sys2Proof.Machine.execMMeNb1 ioa sva qds s
  | .mMeTb1 ioa sva qds time => Sys2Proof.Machine.execMMeTb1 ioa sva qds time s
  | .mMeNc1 ioa r32 qds => Sys2Proof.Machine.execMMeNc1 ioa r32 qds s
  | .mMeTc1 ioa r32 qds time => Sys2Proof.Machine.execMMeTc1 ioa r32 qds time s
  | .mItNa1 ioa bcr => Sys2Proof.Machine.execMItNa1 ioa bcr s
  | .mItTa1 ioa bcr time => Sys2Proof.Machine.execMItTa1 ioa bcr time s
  | .mEpTa1 ioa sep elapsed time => Sys2Proof.Machine.execMEpTa1 ioa sep elapsed time s
  | .mEpTb1 ioa spe qdp duration time => Sys2Proof.Machine.execMEpTb1 ioa spe qdp duration time s
  | .mEpTc1 ioa oci qdp optime time => Sys2Proof.Machine.execMEpTc1 ioa oci qdp optime time s
  | .mPsNa1 ioa scd qds => Sys2Proof.Machine.execMPsNa1 ioa scd qds s
  | .mMeNd1 ioa nva => Sys2Proof.Machine.execMMeNd1 ioa nva s
  | .mSpTb1 ioa siq time => Sys2Proof.Machine.execMSpTb1 ioa siq time s
  | .mDpTb1 ioa diq time => Sys2Proof.Machine.execMDpTb1 ioa diq time s
  | .mStTb1 ioa vti qds time => Sys2Proof.Machine.execMStTb1 ioa vti qds time s
  | .mBoTb1 ioa bsi qds time => Sys2Proof.Machine.execMBoTb1 ioa bsi qds time s
  | .mMeTd1 ioa nva qds time => Sys2Proof.Machine.execMMeTd1 ioa nva qds time s
  | .mMeTe1 ioa sva qds time => Sys2Proof.Machine.execMMeTe1 ioa sva qds time s
  | .mMeTf1 ioa r32 qds time => Sys2Proof.Machine.execMMeTf1 ioa r32 qds time s
  | .mItTb1 ioa bcr time => Sys2Proof.Machine.execMItTb1 ioa bcr time s
  | .mEpTd1 ioa sep elapsed time => Sys2Proof.Machine.execMEpTd1 ioa sep elapsed time s
  | .mEpTe1 ioa spe qdp duration time => Sys2Proof.Machine.execMEpTe1 ioa spe qdp duration time s
  | .mEpTf1 ioa oci qdp optime time => Sys2Proof.Machine.execMEpTf1 ioa oci qdp optime time s
  | .cScNa1 ioa sco => Sys2Proof.Machine.execCScNa1 ioa sco s
  | .cDcNa1 ioa dco => Sys2Proof.Machine.execCDcNa1 ioa dco s
  | .cRcNa1 ioa rco => Sys2Proof.Machine.execCRcNa1 ioa rco s
  | .cSeNa1 ioa nva qos => Sys2Proof.Machine.execCSeNa1 ioa nva qos s
  | .cSeNb1 ioa sva qos => Sys2Proof.Machine.execCSeNb1 ioa sva qos s
  | .cSeNc1 ioa r32 qos => Sys2Proof.Machine.execCSeNc1 ioa r32 qos s
  | .cBoNa1 ioa bsi => Sys2Proof.Machine.execCBoNa1 ioa bsi s
  | .cScTa1 ioa sco time => Sys2Proof.Machine.execCScTa1 ioa sco time s
  | .cDcTa1 ioa dco time => Sys2Proof.Machine.execCDcTa1 ioa dco time s
  | .cRcTa1 ioa rco time => Sys2Proof.Machine.execCRcTa1 ioa rco time s
  | .cSeTa1 ioa nva qos time => Sys2Proof.Machine.execCSeTa1 ioa nva qos time s
  | .cSeTb1 ioa sva qos time => Sys2Proof.Machine.execCSeTb1 ioa sva qos time s
  | .cSeTc1 ioa r32 qos time => Sys2Proof.Machine.execCSeTc1 ioa r32 qos time s
  | .cBoTa1 ioa bsi time => Sys2Proof.Machine.execCBoTa1 ioa bsi time s
  | .mEiNa1 ioa coi => Sys2Proof.Machine.execMEiNa1 ioa coi s
  | .cIcNa1 ioa qoi => Sys2Proof.Machine.execCIcNa1 ioa qoi s
  | .cCiNa1 ioa qcc => Sys2Proof.Machine.execCCiNa1 ioa qcc s
  | .cRdNa1 ioa => Sys2Proof.Machine.execCRdNa1 ioa s
  | .cCsNa1 ioa time => Sys2Proof.Machine.execCCsNa1 ioa time s
  | .cTsNa1 ioa fbp => Sys2Proof.Machine.execCTsNa1 ioa fbp s
  | .cRpNa1 ioa qrp => Sys2Proof.Machine.execCRpNa1 ioa qrp s
  | .cCdNa1 ioa delay => Sys2Proof.Machine.execCCdNa1 ioa delay s
  | .cTsTa1 ioa tsc time => Sys2Proof.Machine.execCTsTa1 ioa tsc time s
  | .pMeNa1 ioa nva qpm => Sys2Proof.Machine.execPMeNa1 ioa nva qpm s
  | .pMeNb1 ioa sva qpm => Sys2Proof.Machine.execPMeNb1 ioa sva qpm s
  | .pMeNc1 ioa r32 qpm => Sys2Proof.Machine.execPMeNc1 ioa r32 qpm s
  | .pAcNa1 ioa qpa => Sys2Proof.Machine.execPAcNa1 ioa qpa s
  | .fFrNa1 ioa nof lof frq => Sys2Proof.Machine.execFFrNa1 ioa nof lof frq s
  | .fSrNa1 ioa nof nos lof srq => Sys2Proof.Machine.execFSrNa1 ioa nof nos lof srq s
  | .fScNa1 ioa nof nos scq => Sys2Proof.Machine.execFScNa1 ioa nof nos scq s
  | .fLsNa1 ioa nof nos lsq chs => Sys2Proof.Machine.execFLsNa1 ioa nof nos lsq chs s
  | .fAfNa1 ioa nof nos afq => Sys2Proof.Machine.execFAfNa1 ioa nof nos afq s
  | .fSgNa1 ioa nof nos seg => Sys2Proof.Machine.execFSgNa1 ioa nof nos seg s
  | .fDrTa1 ioa nof lof sof time => Sys2Proof.Machine.execFDrTa1 ioa nof lof sof time s
  | .fScNb1 ioa nof start stop => Sys2Proof.Machine.execFScNb1 ioa nof start stop s
  | .iFrame ns7 ctrl2 ctrl3 ctrl4 tail => Sys2Proof.Machine.execIFrame ns7 ctrl2 ctrl3 ctrl4 tail s
  | .sFrame ctrl2 ctrl3 ctrl4 tail => Sys2Proof.Machine.execSFrame ctrl2 ctrl3 ctrl4 tail s
  | .uStartdtAct ctrl2 ctrl3 ctrl4 tail => Sys2Proof.Machine.execUStartdtAct ctrl2 ctrl3 ctrl4 tail s
  | .uStartdtCon ctrl2 ctrl3 ctrl4 tail => Sys2Proof.Machine.execUStartdtCon ctrl2 ctrl3 ctrl4 tail s
  | .uStopdtAct ctrl2 ctrl3 ctrl4 tail => Sys2Proof.Machine.execUStopdtAct ctrl2 ctrl3 ctrl4 tail s
  | .uStopdtCon ctrl2 ctrl3 ctrl4 tail => Sys2Proof.Machine.execUStopdtCon ctrl2 ctrl3 ctrl4 tail s
  | .uTestfrAct ctrl2 ctrl3 ctrl4 tail => Sys2Proof.Machine.execUTestfrAct ctrl2 ctrl3 ctrl4 tail s
  | .uTestfrCon ctrl2 ctrl3 ctrl4 tail => Sys2Proof.Machine.execUTestfrCon ctrl2 ctrl3 ctrl4 tail s
  | .ft12Fixed tail => Sys2Proof.Machine.execFt12Fixed tail s
  | .ft12Variable tail => Sys2Proof.Machine.execFt12Variable tail s
  | .ft12Single tail => Sys2Proof.Machine.execFt12Single tail s
  | .unbPriResetRemoteLink bit7 fcb fcv addr => Sys2Proof.Machine.execUnbPriResetRemoteLink bit7 fcb fcv addr s
  | .unbPriResetUserProcess bit7 fcb fcv addr => Sys2Proof.Machine.execUnbPriResetUserProcess bit7 fcb fcv addr s
  | .unbPriUserDataConfirm bit7 fcb fcv addr ud => Sys2Proof.Machine.execUnbPriUserDataConfirm bit7 fcb fcv addr ud s
  | .unbPriUserDataNoReply bit7 fcb fcv addr ud => Sys2Proof.Machine.execUnbPriUserDataNoReply bit7 fcb fcv addr ud s
  | .unbPriRequestAccessDemand bit7 fcb fcv addr => Sys2Proof.Machine.execUnbPriRequestAccessDemand bit7 fcb fcv addr s
  | .unbPriRequestLinkStatus bit7 fcb fcv addr => Sys2Proof.Machine.execUnbPriRequestLinkStatus bit7 fcb fcv addr s
  | .unbPriRequestClass1 bit7 fcb fcv addr => Sys2Proof.Machine.execUnbPriRequestClass1 bit7 fcb fcv addr s
  | .unbPriRequestClass2 bit7 fcb fcv addr => Sys2Proof.Machine.execUnbPriRequestClass2 bit7 fcb fcv addr s
  | .balPriResetRemoteLink bit7 fcb fcv addr => Sys2Proof.Machine.execBalPriResetRemoteLink bit7 fcb fcv addr s
  | .balPriResetUserProcess bit7 fcb fcv addr => Sys2Proof.Machine.execBalPriResetUserProcess bit7 fcb fcv addr s
  | .balPriTestLink bit7 fcb fcv addr => Sys2Proof.Machine.execBalPriTestLink bit7 fcb fcv addr s
  | .balPriUserDataConfirm bit7 fcb fcv addr ud => Sys2Proof.Machine.execBalPriUserDataConfirm bit7 fcb fcv addr ud s
  | .balPriUserDataNoReply bit7 fcb fcv addr ud => Sys2Proof.Machine.execBalPriUserDataNoReply bit7 fcb fcv addr ud s
  | .balPriRequestLinkStatus bit7 fcb fcv addr => Sys2Proof.Machine.execBalPriRequestLinkStatus bit7 fcb fcv addr s
  | .unbSecAck bit7 acd dfc addr => Sys2Proof.Machine.execUnbSecAck bit7 acd dfc addr s
  | .unbSecNackBusy bit7 acd dfc addr => Sys2Proof.Machine.execUnbSecNackBusy bit7 acd dfc addr s
  | .unbSecUserData bit7 acd dfc addr ud => Sys2Proof.Machine.execUnbSecUserData bit7 acd dfc addr ud s
  | .unbSecNackNoData bit7 acd dfc addr => Sys2Proof.Machine.execUnbSecNackNoData bit7 acd dfc addr s
  | .unbSecLinkStatus bit7 acd dfc addr => Sys2Proof.Machine.execUnbSecLinkStatus bit7 acd dfc addr s
  | .unbSecLinkNotFunctioning bit7 acd dfc addr => Sys2Proof.Machine.execUnbSecLinkNotFunctioning bit7 acd dfc addr s
  | .unbSecLinkNotImplemented bit7 acd dfc addr => Sys2Proof.Machine.execUnbSecLinkNotImplemented bit7 acd dfc addr s
  | .balSecAck bit7 bit5 dfc addr => Sys2Proof.Machine.execBalSecAck bit7 bit5 dfc addr s
  | .balSecNackBusy bit7 bit5 dfc addr => Sys2Proof.Machine.execBalSecNackBusy bit7 bit5 dfc addr s
  | .balSecLinkStatus bit7 bit5 dfc addr => Sys2Proof.Machine.execBalSecLinkStatus bit7 bit5 dfc addr s
  | .balSecLinkNotFunctioning bit7 bit5 dfc addr => Sys2Proof.Machine.execBalSecLinkNotFunctioning bit7 bit5 dfc addr s
  | .balSecLinkNotImplemented bit7 bit5 dfc addr => Sys2Proof.Machine.execBalSecLinkNotImplemented bit7 bit5 dfc addr s

end Sys2Proof.Machine
end

