-- ==== Sys2Proof/Machine/Port.lean ====
section
/-! DEFINITION. The command port and the host's writes: what each action of the host does (30_encoding.md R100,
20_memory.md R74 to R76, 10_state.md R56; log entries 1, 9 and 14). -/

namespace Sys2Proof.Machine

/-- The host presents octets in a space: the instruction they decode to runs. An unassigned opcode raises
UNKNOWN_COMMAND (30_encoding.md R102). Octets that are no operation with typed operands are no command (R100): the
model refuses them, log entry 14. Octets after the instruction are ignored (log entry 15). -/
def present (sp : Space) (os : List Byte) (s : State) : Out :=
  match decode sp os with
  | .ok (instr, _) => exec instr s
  | .error (.unassigned first) => if sp = .command then unknownCommand first s else .refused (.malformed sp)
  | .error .noOctets => .refused (.malformed sp)
  | .error .malformed => .refused (.malformed sp)

/-- What an action of the host does. -/
def takeAction (action : HostAction) (s : State) : Out :=
  match action with
  | .present sp os => present sp os s
  | .writeBuf b addr os => s.hostWrite b addr.toNat os fun t => .next t
  | .writeAsduLen v => .next { s with asduLen := v }
  | .writeReg _ _ => .next s

/-- The presentation of a table word's octets: in the first space in which they decode (log entry 3), and in the
command space where they decode in none. -/
def presentation (os : List Byte) : HostAction :=
  match decodeIn Space.all os with
  | some (sp, _) => .present sp os
  | none => .present .command os

end Sys2Proof.Machine
end

