-- ==== Sys2Proof/Machine/Step.lean ====
section
/-! DEFINITION. One step: the next thing that the host does (log entry 9). A presented instruction is decoded and run; a
host write has its effect (20_memory.md R74 to R76, 10_state.md R56); with nothing left to do the block idles
(60_exceptions.md R512). -/

namespace Sys2Proof.Machine

/-- One step of the machine. -/
def step (s : State) : Host.Outcome State Fault Refusal :=
  match s.input with
  | [] => .next s
  | action :: rest => takeAction action { s with input := rest }

/-- `s` with the octets of a table word presented next, in the space that `decodeTableWord` reads them in. -/
def State.withFetchWord (s : State) (nbits w : Nat) : State :=
  { s with input := presentation (tableOctets nbits w) :: s.input }

end Sys2Proof.Machine
end

