-- ==== Sys2Proof/Machine/Macros.lean ====
section
/-! DEFINITION. The pseudo-commands of 30_encoding.md R119: macros of the host, each a list of commands. -/

namespace Sys2Proof.Machine

/-- The header operands of ASDU_BEGIN, which SEND104 and SEND101 take as `hdr`. -/
structure MacroHeader where
  sq  : Bool
  t   : Bool
  pn  : Bool
  cot : Byte
  oa  : Byte
  ca  : BitVec 16
deriving DecidableEq, Repr

/-- `ASDU_BEGIN hdr` ; `ASDU_ADD_IO io_1` ... `ASDU_ADD_IO io_n` ; `ASDU_ENCODE`. -/
def macroBuild (hdr : MacroHeader) (ios : List IOOperand) : List Instr :=
  .asduBegin hdr.sq hdr.t hdr.pn hdr.cot hdr.oa hdr.ca :: ios.map .asduAddIo ++ [.asduEncode]

/-- SEND104. -/
def macroSend104 (hdr : MacroHeader) (ios : List IOOperand) (tag : Tag) : List Instr :=
  macroBuild hdr ios ++ [.apciSendI tag]

/-- SEND101. -/
def macroSend101 (hdr : MacroHeader) (ios : List IOOperand) (c : Byte) (a : BitVec 16) : List Instr :=
  macroBuild hdr ios ++ [.ft12EncVar c a]

/-- NEGCON. -/
def macroNegCon (cause : Byte) : List Instr := [.asduRewriteCot cause true]

/-- ACK104. -/
def macroAck104 : List Instr := [.apciSendS]

/-- A macro runs its commands one after another and "stops at the first status other than OK". -/
def runMacro : List Instr → State → Out
  | [], s => .next s
  | instr :: rest, s =>
    match exec instr s with
    | .next t => if t.status = Status.ok.code then runMacro rest t else .next t
    | .fault r => .fault r
    | .refused r => .refused r

end Sys2Proof.Machine
end

