-- ==== Sys2Proof/Safety.lean ====
section
/-! DEFINITION. What holds of every state that a run reaches, in the terms that claims use: the invariants of the spec's
prose, one predicate each. -/

namespace Sys2Proof.Machine

/-- Every listed octet is one of the buffer's (20_memory.md R70). -/
def Mem.inBounds (size : Nat) (m : Mem) : Bool := m.all fun cell => decide (cell.1 < size)

/-- Every buffer is in canonical form and lists none but its own octets. -/
def State.MemOk (s : State) : Prop := ∀ b, Mem.wf (s.buf b) = true ∧ Mem.inBounds b.size (s.buf b) = true

/-- STATUS holds a code of 60_exceptions.md R500. -/
def State.StatusOk (s : State) : Prop := ∃ e : Status, s.status = e.code

/-- A configuration that RESET accepted meets its ranges (00_scope.md R19, 70_reset_and_hazards.md R541). -/
def State.ConfigOk (s : State) : Prop := ∀ c, s.config = some c → c.valid = true

/-- The window invariant (10_state.md R48): a ring of K entries whose live ones carry the consecutive numbers
`(VS - WIN_COUNT + j) mod 32768`. -/
def windowOk (c : Config) (a : Apci) : Prop :=
  a.win.length = c.k ∧ a.winOldest < c.k ∧ a.winCount ≤ c.k ∧
    ∀ j, j < a.winCount →
      (a.entry c.k (a.winOldest + j)).seq = a.vs - BitVec.ofNat 15 a.winCount + BitVec.ofNat 15 j

/-- The builder's lengths (10_state.md R37, 44_asdu_codec.md R323): `HDR_LEN ≤ B_LEN ≤ MAX_ASDU_LEN` while B_ACTIVE, no
element without a type, and more than a header once an object was added. -/
def builderOk (c : Config) (b : Builder) : Prop :=
  b.active = true →
    c.hdrLen ≤ b.len.toNat ∧ b.len.toNat ≤ c.maxAsduLen ∧
    (b.type = none → b.count = 0#7 ∧ b.raw = false ∧ b.len.toNat = c.hdrLen) ∧
    (b.type ≠ none → b.raw = false → b.count ≠ 0#7 ∧ c.hdrLen < b.len.toNat)

/-- A live view lies in RXBUF and is what its own octets parse to (10_state.md R39, R57): nothing changed RXBUF under it
(20_memory.md R74). -/
def viewOk (c : Config) (v : View) (rx : Mem) : Prop :=
  v.valid = true →
    v.off.toNat + v.len.toNat ≤ Buf.rxbuf.size ∧
    parseAsdu c (Mem.read rx v.off.toNat v.len.toNat) =
      (if v.known = true then .good v.hdr v.psize v.len.toNat else .unknown v.hdr)

/-- A valid element has the body of its type (10_state.md R41). -/
def elemOk (c : Config) (e : Element) : Prop :=
  e.valid = true → bodyFits c e.io.type e.io.body = true ∧ e.io.ioa.toNat < 2 ^ (8 * c.ioaLen)

/-- The control-field registers are the bits of F_C while F_VALID, and the user data lies in RXBUF (10_state.md R42,
R43). -/
def linkOk (c : Config) (l : LinkRx) : Prop :=
  l.valid = true →
    l.c = l.b7 ++ l.prm ++ l.b5 ++ l.b4 ++ l.fc ∧
    l.fclass = (if l.kind = .single then .none else fclass c.linkMode l.prm l.fc) ∧
    l.udOff.toNat + l.udLen.toNat ≤ Buf.rxbuf.size

/-- Only a controlling station awaits the confirmation of a STARTDT or STOPDT that it sent, and only a controlled one
owes such a confirmation (46_apci.md R420 to R423, R428, R430). -/
def rolesOk (c : Config) (a : Apci) : Prop :=
  (a.startdtPending = true ∨ a.stopdtPending = true → c.apciRole = .controlling) ∧
  (a.respStartdtCon = true ∨ a.respStopdtCon = true → c.apciRole = .controlled)

/-- Before the first accepted RESET nothing is valid, begun or received (70_reset_and_hazards.md R542). -/
def State.Unconfigured (s : State) : Prop :=
  s.builder.active = false ∧ s.view.valid = false ∧ s.elem.valid = false ∧ s.link.valid = false ∧
    s.apci = Apci.reset ∧ s.txLen = 0#16

/-- The invariant of the machine: what every step keeps. -/
structure State.Inv (s : State) : Prop where
  mem          : s.MemOk
  status       : s.StatusOk
  config       : s.ConfigOk
  txLen        : s.txLen.toNat ≤ Buf.txbuf.size
  unconfigured : s.config = none → s.Unconfigured
  window       : ∀ c, s.config = some c → windowOk c s.apci
  builder      : ∀ c, s.config = some c → builderOk c s.builder
  view         : ∀ c, s.config = some c → viewOk c s.view s.rxbuf
  elem         : ∀ c, s.config = some c → elemOk c s.elem
  link         : ∀ c, s.config = some c → linkOk c s.link
  roles        : ∀ c, s.config = some c → rolesOk c s.apci

/-- The next action of the host is one that the block can do: a presentation that decodes in its space or has an
unassigned opcode, or a write inside a buffer. -/
def State.InputOk (s : State) : Prop :=
  match s.input with
  | [] => True
  | .present sp os :: _ =>
    match decode sp os with
    | .ok _ => True
    | .error (.unassigned _) => sp = .command
    | .error _ => False
  | .writeBuf b addr os :: _ => os = [] ∨ addr.toNat + os.length ≤ b.size
  | .writeAsduLen _ :: _ => True
  | .writeReg _ _ :: _ => True

/-! ## Terms of the claims -/

/-- From `s` to `t` the octets of a buffer from an address on became `os`, and every other octet of every buffer is as it
was. -/
def Wrote (s t : State) (b : Buf) (a : Nat) (os : List Byte) : Prop :=
  Mem.read (t.buf b) a os.length = os ∧
  (∀ x, x < a ∨ a + os.length ≤ x → t.octetAt b x = s.octetAt b x) ∧
  (∀ b', b' ≠ b → t.buf b' = s.buf b')

/-- The registers that a received frame leaves: the host's write of the frame to RXBUF[0..], which clears V_VALID
(20_memory.md R74) and E_VALID (log entry 10), and then the registers of the unit that took it, with a status. `link`
and `apci` are those registers afterwards. -/
def TookFrame (s t : State) (frame : List Byte) (link : LinkRx) (apci : Apci) (e : Status) (info : BitVec 16) : Prop :=
  Wrote s t .rxbuf 0 frame ∧
  t = { s with rxbuf := t.rxbuf, view.valid := false, elem.valid := false, link := link, apci := apci, status := e.code,
               statusInfo := info }

/-- The F_* registers of a frame of a kind (45_ft12_link.md R365): control octet, link address octets, user data. The
name is F_FCLASS. -/
def linkRegisters (kind : FrameKind) (c : Byte) (addr ud : List Byte) (name : FClass) : LinkRx :=
  { valid := true, kind := kind, c := c, a := BitVec.ofNat 16 (fromLE addr),
    udOff := if kind = .variable then BitVec.ofNat 16 (5 + addr.length) else 0#16,
    udLen := BitVec.ofNat 8 ud.length,
    b7 := c.extractLsb' 7 1, prm := c.extractLsb' 6 1, b5 := c.extractLsb' 5 1, b4 := c.extractLsb' 4 1,
    fc := c.extractLsb' 0 4, fclass := name }

/-- A reception of a well-formed fixed-length frame answers OK with F_FCLASS the given name (45_ft12_link.md R360,
R365). -/
def ReceivesFixed (s : State) (out : Out) (c : Byte) (addr : List Byte) (name : FClass) : Prop :=
  ∃ t, out = .next t ∧
    TookFrame s t ([0x10#8, c] ++ addr ++ [sum8 (c :: addr), 0x16#8]) (linkRegisters .fixed c addr [] name) s.apci
      .ok 0#16

/-- A reception of a well-formed variable-length frame answers OK with F_FCLASS the given name (45_ft12_link.md R360,
R365). -/
def ReceivesVariable (s : State) (out : Out) (c : Byte) (addr ud : List Byte) (name : FClass) : Prop :=
  ∃ t, out = .next t ∧
    TookFrame s t
      ([0x68#8, BitVec.ofNat 8 (1 + addr.length + ud.length), BitVec.ofNat 8 (1 + addr.length + ud.length), 0x68#8, c] ++
        addr ++ ud ++ [sum8 (c :: addr ++ ud), 0x16#8])
      (linkRegisters .variable c addr ud name) s.apci .ok 0#16

/-- The ranges of a RESET operand (00_scope.md R6 to R18, 70_reset_and_hazards.md R541), on its octets. -/
def InRange (o : ConfigOperand) : Prop :=
  (o.cotLen = 1#8 ∨ o.cotLen = 2#8) ∧ (o.caLen = 1#8 ∨ o.caLen = 2#8) ∧
  (o.ioaLen = 1#8 ∨ o.ioaLen = 2#8 ∨ o.ioaLen = 3#8) ∧ o.typeIdLen = 1#8 ∧
  2 + o.cotLen.toNat + o.caLen.toNat + 1 ≤ o.maxAsduLen.toNat ∧ o.maxAsduLen.toNat ≤ 255 ∧
  1 ≤ o.k.toNat ∧ o.k.toNat ≤ 32767 ∧ 1 ≤ o.w.toNat ∧ o.w.toNat ≤ 32767 ∧
  o.linkAddrLen.toNat ≤ 2 ∧ (o.linkMode = 0#8 ∨ o.linkMode = 1#8) ∧ (o.apciRole = 0#8 ∨ o.apciRole = 1#8) ∧
  (o.strictLength = 0#8 ∨ o.strictLength = 1#8) ∧ o.fcsMode = 0#8 ∧
  ∀ p, p ∈ o.privateTypes → ∀ t : TypeId, t.code ≠ p.typeId

/-- The conditions of 44_asdu_codec.md R321 under which ASDU_ADD_IO adds an object with a body. -/
structure Addable (c : Config) (b : Builder) (type : Byte) (ioa : Nat) (body : Body) : Prop where
  active   : b.active = true
  notRaw   : b.raw = false
  known    : (psizeOf? c type).isSome = true
  sameType : b.type = none ∨ b.type = some type
  ioaFits  : ioa < 2 ^ (8 * c.ioaLen)
  bodyFits : bodyFits c type body = true
  count    : b.count.toNat < 127
  seqFirst : b.sq = true → b.count = 0#7 → seqOk c type = true
  seqNext  : b.sq = true → b.count ≠ 0#7 → ioa = b.firstIoa.toNat + b.count.toNat
  space    : b.len.toNat + (if b.sq = true ∧ b.count ≠ 0#7 then 0 else c.ioaLen) + body.enc.length ≤ c.maxAsduLen

/-- What an accepted ASDU_ADD_IO leaves (44_asdu_codec.md R321): the element's octets at B_LEN, the type octet with the
first element, the VSQ octet, every other octet of every buffer as it was, and of the registers only the builder and
the status. -/
def ObjectAdded (c : Config) (s t : State) (type : Byte) (ioa : Nat) (body : Body) : Prop :=
  let b := s.builder
  let part := (if b.sq = true ∧ b.count ≠ 0#7 then [] else leOctets c.ioaLen ioa) ++ body.enc
  Mem.read t.abuf b.len.toNat part.length = part ∧
  t.octetAt .abuf 0 = (if b.count = 0#7 then type else s.octetAt .abuf 0) ∧
  t.octetAt .abuf 1 = (if b.sq = true then 0x80#8 else 0x00#8) + (b.count.setWidth 8 + 1#8) ∧
  (∀ a, 2 ≤ a → a < b.len.toNat ∨ b.len.toNat + part.length ≤ a → t.octetAt .abuf a = s.octetAt .abuf a) ∧
  t = { s with
        abuf := t.abuf
        builder := { b with type := if b.count = 0#7 then some type else b.type
                            firstIoa := if b.count = 0#7 then BitVec.ofNat 24 ioa else b.firstIoa
                            count := b.count + 1#7
                            len := BitVec.ofNat 8 (b.len.toNat + part.length) }
        status := 0x00#8
        statusInfo := 0#16 }

/-- The window after a valid N(R) retired its entries (46_apci.md R415), and the STOPDT that may complete then (R430):
`n` entries leave, oldest first. -/
def Retired (c : Config) (a a' : Apci) (nr : SeqNo) : Prop :=
  let n := a.winCount - (a.vs - nr).toNat
  a'.winCount = a.winCount - n ∧
  a'.winOldest = (a.winOldest + n) % c.k ∧
  a'.win = a.win ∧
  a'.rx.retired.toNat = n ∧
  a'.rx.retiredTag = (if n = 0 then a.rx.retiredTag
    else (a.win.getD ((a.winOldest + n - 1) % c.k) WinEntry.zero).tag) ∧
  (if a.state = .unconfirmedStopped ∧ a'.winCount = 0 ∧ c.apciRole = .controlled then
    a'.state = .stopped ∧ a'.respStopdtCon = true
  else a'.state = a.state ∧ a'.respStopdtCon = a.respStopdtCon)

/-- The receive-result registers of an accepted frame (10_state.md R53), but for the two that a retirement writes. -/
def Noted (a' : Apci) (kind : AKind) (ns nr : SeqNo) (ufn : Option Ufn) (off : BitVec 16) (len : Nat) : Prop :=
  a'.rx.kind = kind ∧ a'.rx.ns = ns ∧ a'.rx.nr = nr ∧ a'.rx.ufn = ufn ∧ a'.rx.asduOff = off ∧ a'.rx.asduLen.toNat = len

/-- From `a` to `a'` an I-frame with `n` octets of ASDU was accepted (46_apci.md R418). -/
def AcceptedI (c : Config) (a a' : Apci) (nr : SeqNo) (n : Nat) : Prop :=
  Noted a' .i a.vr nr none 6#16 n ∧ Retired c a a' nr ∧
  a' = { a with rx := a'.rx, state := a'.state, winOldest := a'.winOldest, winCount := a'.winCount,
                respStopdtCon := a'.respStopdtCon, vr := BitVec.ofNat 15 ((a.vr.toNat + 1) % 32768),
                unackRx := BitVec.ofNat 15 (min (a.unackRx.toNat + 1) 32767) }

/-- From `a` to `a'` an S-frame was accepted (46_apci.md R419). -/
def AcceptedS (c : Config) (a a' : Apci) (nr : SeqNo) : Prop :=
  Noted a' .s 0#15 nr none 0#16 0 ∧ Retired c a a' nr ∧
  a' = { a with rx := a'.rx, state := a'.state, winOldest := a'.winOldest, winCount := a'.winCount,
                respStopdtCon := a'.respStopdtCon }

/-- The A_* registers that every received U-frame writes (46_apci.md section 3.1). -/
def notedU (a : Apci) (fn : Ufn) : Apci :=
  { a with rx := { kind := .u, ns := 0#15, nr := 0#15, ufn := some fn, asduOff := 0#16, asduLen := 0#8, retired := 0#15,
                   retiredTag := a.rx.retiredTag } }

/-- What a received U-frame does to the unit, and its status (46_apci.md R420 to R425). `a` has the A_* registers
already; a function that is not expected changes nothing more and its status is U_UNEXPECTED. -/
def UOutcome (role : ApciRole) (a : Apci) (fn : Ufn) (a' : Apci) (e : Status) : Prop :=
  match fn with
  | .startdtAct =>
    (role = .controlled ∧ a.state = .stopped ∧ e = .ok ∧ a' = { a with state := .started, respStartdtCon := true }) ∨
    (role = .controlled ∧ a.state = .started ∧ e = .ok ∧ a' = { a with respStartdtCon := true }) ∨
    (¬ (role = .controlled ∧ (a.state = .stopped ∨ a.state = .started)) ∧ e = .uUnexpected ∧ a' = a)
  | .startdtCon =>
    (role = .controlling ∧ a.startdtPending = true ∧ e = .ok ∧
      a' = { a with startdtPending := false, state := .started }) ∨
    (¬ (role = .controlling ∧ a.startdtPending = true) ∧ e = .uUnexpected ∧ a' = a)
  | .stopdtAct =>
    (role = .controlled ∧ (a.state = .started ∨ a.state = .unconfirmedStopped) ∧ a.winCount = 0 ∧ e = .ok ∧
      a' = { a with state := .stopped, respStopdtCon := true }) ∨
    (role = .controlled ∧ (a.state = .started ∨ a.state = .unconfirmedStopped) ∧ a.winCount ≠ 0 ∧ e = .ok ∧
      a' = { a with state := .unconfirmedStopped }) ∨
    (role = .controlled ∧ a.state = .stopped ∧ e = .ok ∧ a' = { a with respStopdtCon := true }) ∨
    (role ≠ .controlled ∧ e = .uUnexpected ∧ a' = a)
  | .stopdtCon =>
    (role = .controlling ∧ a.stopdtPending = true ∧ e = .ok ∧
      a' = { a with stopdtPending := false, state := .stopped }) ∨
    (¬ (role = .controlling ∧ a.stopdtPending = true) ∧ e = .uUnexpected ∧ a' = a)
  | .testfrAct => e = .ok ∧ a' = { a with respTestfrCon := true }
  | .testfrCon =>
    (a.testOutstanding = true ∧ e = .ok ∧ a' = { a with testOutstanding := false }) ∨
    (a.testOutstanding = false ∧ e = .uUnexpected ∧ a' = a)

/-- The status info of a received U-frame: ctrl1 when it was not expected, else 0 (46_apci.md section 3.1). -/
def uInfo (fn : Ufn) (e : Status) : BitVec 16 := if e = .ok then 0#16 else (ufnCode fn).setWidth 16

/-- Which U-frame a station may send, and what sending it starts (46_apci.md R428). -/
def USendable (role : ApciRole) (a : Apci) (fn : Ufn) (a' : Apci) : Prop :=
  match fn with
  | .startdtAct => role = .controlling ∧ a.state = .stopped ∧ a.startdtPending = false ∧
      a' = { a with startdtPending := true }
  | .stopdtAct => role = .controlling ∧ a.state = .started ∧ a.stopdtPending = false ∧
      a' = { a with stopdtPending := true, state := .unconfirmedStopped }
  | .startdtCon => role = .controlled ∧ a.respStartdtCon = true ∧ a' = { a with respStartdtCon := false }
  | .stopdtCon => role = .controlled ∧ a.respStopdtCon = true ∧ a' = { a with respStopdtCon := false }
  | .testfrAct => a' = { a with testOutstanding := true }
  | .testfrCon => a.respTestfrCon = true ∧ a' = { a with respTestfrCon := false }

/-- From `s` to `t` a frame was sent: TXBUF[0..] holds it, TX_LEN its length, the unit's registers are `apci`, the status
is OK, and nothing else changed. -/
def Sent (s t : State) (frame : List Byte) (apci : Apci) : Prop :=
  Wrote s t .txbuf 0 frame ∧
  t = { s with txbuf := t.txbuf, txLen := BitVec.ofNat 16 frame.length, apci := apci, status := 0x00#8,
               statusInfo := 0#16 }

/-! ## Outcomes of a command, for the claims -/

/-- A refusal: the two status registers are written and nothing else changes (60_exceptions.md R501). `s` has the
writes "on failure" of the command's rule already. -/
def refusal (s : State) (code : Byte) (info : BitVec 16) : Out := .next { s with status := code, statusInfo := info }

/-- A fatal status: A_STATE is FAULTED, and nothing else changes but the two status registers (60_exceptions.md
R503). -/
def fatally (s : State) (code : Byte) (info : BitVec 16) : Out :=
  .next { s with apci.state := .faulted, status := code, statusInfo := info }

/-- A command that ends OK in a state. -/
def completes (s : State) : Out := .next { s with status := 0x00#8, statusInfo := 0#16 }

/-- From `s` to `u` the host put a frame at RXBUF[0..], which clears V_VALID (20_memory.md R74) and E_VALID (log entry
10) and changes nothing else. -/
def Delivered (s u : State) (frame : List Byte) : Prop :=
  Wrote s u .rxbuf 0 frame ∧ u = { s with rxbuf := u.rxbuf, view.valid := false, elem.valid := false }

/-- The header fields of an ASDU's octets (30_encoding.md R104 to R107). -/
def HeaderOf (c : Config) (os : List Byte) (h : Header) : Prop :=
  h.type = octet os 0 ∧
  (h.sq = true ↔ 128 ≤ (octet os 1).toNat) ∧ h.count.toNat = (octet os 1).toNat % 128 ∧
  (h.t = true ↔ 128 ≤ (octet os 2).toNat) ∧ (h.pn = true ↔ 64 ≤ (octet os 2).toNat % 128) ∧
  h.cot.toNat = (octet os 2).toNat % 64 ∧
  h.oa = (if c.cotLen = 2 then octet os 3 else 0#8) ∧
  h.ca.toNat = (octet os (2 + c.cotLen)).toNat + (if c.caLen = 2 then 256 * (octet os (3 + c.cotLen)).toNat else 0)

/-- The octets of one element of type 125: its address, four octets, and as many segment octets as the fourth of them
says (30_encoding.md R115, 43_io_control_file.md R302). -/
def SegmentOctets (c : Config) (e : List Byte) : Prop :=
  c.ioaLen + 4 ≤ e.length ∧ e.length = c.ioaLen + 4 + (octet e (c.ioaLen + 3)).toNat

/-- What FT12_DECODE does with the octets of a frame in RXBUF (45_ft12_link.md R365 checks 2 and 3): F_VALID false with
a status, or the F_* registers. -/
def LinkOutcome (c : Config) (s : State) (out : Out) (os : List Byte) : Prop :=
  let n := c.linkAddrLen
  let len := os.length
  let failed := { s with link.valid := false }
  let framing (info : Nat) : Prop := out = refusal failed 0x20#8 (BitVec.ofNat 16 info)
  let checksum (info : Nat) : Prop := out = refusal failed 0x21#8 (BitVec.ofNat 16 info)
  let name (ctl : Byte) : FClass := fclass c.linkMode (ctl.extractLsb' 6 1) (ctl.extractLsb' 0 4)
  if len = 0 then framing 0
  else if octet os 0 = 0xE5#8 then
    if len ≠ 1 then framing 1
    else out = completes { s with link := linkRegisters .single 0x00#8 [] [] .none }
  else if octet os 0 = 0x10#8 then
    if len ≠ 4 + n then framing len
    else if octet os (len - 1) ≠ 0x16#8 then framing (len - 1)
    else if octet os (2 + n) ≠ sum8 (slice os 1 (1 + n)) then checksum (2 + n)
    else out = completes
      { s with link := linkRegisters .fixed (octet os 1) (slice os 2 n) [] (name (octet os 1)) }
  else if octet os 0 = 0x68#8 then
    let l := (octet os 1).toNat
    if len < 6 then framing len
    else if octet os 2 ≠ octet os 1 then framing 2
    else if octet os 3 ≠ 0x68#8 then framing 3
    else if l < 1 + n then framing 1
    else if len ≠ l + 6 then framing len
    else if octet os (len - 1) ≠ 0x16#8 then framing (len - 1)
    else if octet os (4 + l) ≠ sum8 (slice os 4 l) then checksum (4 + l)
    else out = completes
      { s with link := linkRegisters .variable (octet os 4) (slice os 5 n) (slice os (5 + n) (l - 1 - n))
                 (name (octet os 4)) }
  else framing 0

/-- Is a received N(R) valid (46_apci.md R414)? -/
def NrValid (a : Apci) (nr : SeqNo) : Prop := (a.vs - nr).toNat ≤ a.winCount

/-- What a received I-frame with `n` octets of ASDU does (46_apci.md R418). -/
def IOutcome (c : Config) (s : State) (out : Out) (ns nr : SeqNo) (n : Nat) : Prop :=
  (s.apci.state = .stopped → out = fatally s 0x13#8 0#16) ∧
  (s.apci.state ≠ .stopped → ns ≠ s.apci.vr → out = fatally s 0x11#8 (ns.setWidth 16)) ∧
  (s.apci.state ≠ .stopped → ns = s.apci.vr → ¬ NrValid s.apci nr → out = fatally s 0x12#8 (nr.setWidth 16)) ∧
  (s.apci.state ≠ .stopped → ns = s.apci.vr → NrValid s.apci nr →
    ∃ a, AcceptedI c s.apci a nr n ∧ out = completes { s with apci := a })

/-- What a received S-frame does (46_apci.md R419). -/
def SOutcome (c : Config) (s : State) (out : Out) (nr : SeqNo) : Prop :=
  (s.apci.state = .stopped → out = fatally s 0x13#8 0#16) ∧
  (s.apci.state ≠ .stopped → ¬ NrValid s.apci nr → out = fatally s 0x12#8 (nr.setWidth 16)) ∧
  (s.apci.state ≠ .stopped → NrValid s.apci nr →
    ∃ a, AcceptedS c s.apci a nr ∧ out = completes { s with apci := a })

/-- What a received U-frame does (46_apci.md R420 to R425). -/
def UResult (c : Config) (s : State) (out : Out) (fn : Ufn) : Prop :=
  ∃ a e, UOutcome c.apciRole (notedU s.apci fn) fn a e ∧
    out = .next { s with apci := a, status := e.code, statusInfo := uInfo fn e }

/-- The row of a U-frame function (30_encoding.md R111). -/
def uRow : Ufn → Byte → Byte → Byte → List Byte → Instr
  | .startdtAct => .uStartdtAct
  | .startdtCon => .uStartdtCon
  | .stopdtAct => .uStopdtAct
  | .stopdtCon => .uStopdtCon
  | .testfrAct => .uTestfrAct
  | .testfrCon => .uTestfrCon

/-- The two octets of a sequence number as 46_apci.md R413 writes them. -/
def seqOctets (n : SeqNo) : List Byte := [BitVec.ofNat 8 (n.toNat % 128 * 2), BitVec.ofNat 8 (n.toNat / 128)]

end Sys2Proof.Machine
end

