-- ==== Sys2Proof/Certificates/Slice0/Obligations.lean ====
section
/-! DEFINITION. The statements for the provers. `completes`, `refusal` and `fatally` are the three ways a command ends, and
the other terms are those of `Sys2Proof.Safety`. -/

open Sys2Proof Sys2Proof.Machine

/-! ## Encoding -/

/-- Decoding an encoded well-formed instruction gives it back, whatever octets follow. The octets of the port are the
model's own (log entry 1). -/
def Obligations.DecodeEncode : Prop :=
  ∀ (i : Instr) (rest : List Byte), i.wf = true → decode i.space (encode i ++ rest) = .ok (i, rest)

/-- What decodes is well formed, is of the space it decodes in, and encodes to the very octets read (log entry 1). -/
def Obligations.EncodeDecode : Prop :=
  ∀ (sp : Space) (os : List Byte) (i : Instr) (rest : List Byte),
    decode sp os = .ok (i, rest) → i.wf = true ∧ i.space = sp ∧ encode i ++ rest = os

/-- A presentation of each encoding space decodes to the instruction it stands for. The octet codes and the bits of the fields
are the spec's; the spaces, the row octet in front and the length octets of strings are the model's port layout (log
entries 1 and 3). -/
def Obligations.SpecWordsDecode : Prop :=
  decode .command [0x34#8] = .ok (.apciReset, []) ∧
  decode .asduType [0x64#8, 0x00#8, 0x00#8, 0x00#8, 0x14#8] = .ok (.cIcNa1 0#24 ⟨20#8⟩, []) ∧
  decode .apci [0x01#8, 0x00#8, 0x14#8, 0x00#8, 0x00#8] = .ok (.sFrame 0x00#8 0x14#8 0x00#8 [], []) ∧
  decode .ft12 [0x10#8, 0x01#8, 0x00#8, 0x49#8] = .ok (.ft12Fixed [0x49#8], []) ∧
  decode .ctlUnbalanced [0x73#8, 0x01#8, 0x05#8, 0x01#8, 0xAA#8] =
    .ok (.unbPriUserDataConfirm 0#1 1#1 1#1 [0x05#8] [0xAA#8], []) ∧
  decode .ctlBalanced [0x8B#8, 0x00#8] = .ok (.balSecLinkStatus 1#1 0#1 0#1 [], [])

/-- A step runs the instruction that the presented octets decode to, and nothing else (log entries 1, 3, 9, 15). -/
def Obligations.StepRunsDecodedInstruction : Prop :=
  (∀ (s : State) (sp : Space) (os rest : List Byte) (later : List HostAction) (i : Instr),
    s.input = .present sp os :: later → decode sp os = .ok (i, rest) → step s = exec i { s with input := later }) ∧
  (∀ (s : State) (nbits w : Nat) (i : Instr),
    decodeTableWord nbits w = some i → step (s.withFetchWord nbits w) = exec i s)

/-- A command whose opcode is not in the table raises UNKNOWN_COMMAND and changes nothing else (R102). -/
def Obligations.UnassignedOpcode : Prop :=
  ∀ (s : State) (opcode : Byte) (os : List Byte) (later : List HostAction),
    s.input = .present .command (opcode :: os) :: later →
    opcode ∉ [0x00#8, 0x01#8, 0x10#8, 0x11#8, 0x12#8, 0x13#8, 0x14#8, 0x15#8, 0x16#8, 0x20#8, 0x21#8, 0x22#8, 0x23#8,
      0x30#8, 0x31#8, 0x32#8, 0x33#8, 0x34#8, 0x40#8, 0x41#8, 0x42#8, 0x43#8, 0x44#8, 0x45#8, 0x46#8] →
    step s = refusal { s with input := later } 0xFF#8 (opcode.setWidth 16)

/-! ## Host writes -/

/-- Host writes (20_memory.md R74 to R76, 10_state.md R56). That a write to RXBUF clears E_VALID (92_eei_decisions.md D31,
93_implementation_defined.md U28) is log entry 10; that no octets are no write is log entry 18. -/
def Obligations.HostWrites : Prop :=
  (∀ (s : State) (b : Buf) (addr : BitVec 16) (os : List Byte) (later : List HostAction),
    s.input = .writeBuf b addr os :: later → s.MemOk → os ≠ [] → addr.toNat + os.length ≤ b.size →
    ∃ t, step s = .next t ∧ Wrote s t b addr.toNat os ∧
      t = match b with
        | .rxbuf => { s with rxbuf := t.rxbuf, view.valid := false, elem.valid := false, input := later }
        | .txbuf => { s with txbuf := t.txbuf, input := later }
        | .abuf => { s with abuf := t.abuf, builder.active := false, input := later }) ∧
  (∀ (s : State) (b : Buf) (addr : BitVec 16) (later : List HostAction),
    s.input = .writeBuf b addr [] :: later → step s = .next { s with input := later }) ∧
  (∀ (s : State) (v : Byte) (later : List HostAction),
    s.input = .writeAsduLen v :: later → step s = .next { s with asduLen := v, input := later }) ∧
  (∀ (s : State) (r : Reg) (v : BitVec 64) (later : List HostAction),
    s.input = .writeReg r v :: later → step s = .next { s with input := later })

/-- Before the first accepted RESET every other command is refused (70_reset_and_hazards.md R542). The clauses on rows that
are no commands are the model's reading: a type row is a use of ASDU_ADD_IO, and a frame or function code row a host write
of a frame, the same in every state, and then APCI_RECEIVE or FT12_DECODE (log entry 2). -/
def Obligations.NotConfigured : Prop :=
  (∀ (i : Instr) (s : State), s.config = none → i.space = .command ∨ i.space = .asduType → (∀ cfg, i ≠ .reset cfg) →
    exec i s = refusal s 0xFD#8 0#16) ∧
  (∀ (s : State) (opcode : Byte) (os : List Byte) (later : List HostAction),
    s.config = none → s.input = .present .command (opcode :: os) :: later →
    decode .command (opcode :: os) = .error (.unassigned opcode) →
    step s = refusal { s with input := later } 0xFF#8 (opcode.setWidth 16)) ∧
  (∀ (s : State) (o : ConfigOperand), s.config = none → ¬ InRange o → exec (.reset o) s = refusal s 0xFE#8 0#16) ∧
  (∀ (i : Instr), i.space ≠ .command → i.space ≠ .asduType → i.wf = true →
    ∃ frame : List Byte, ∀ s : State, s.MemOk → ∃ u, Delivered s u frame ∧
      (∀ t, exec i s = .next t → t.rxbuf = u.rxbuf) ∧ (s.config = none → exec i s = refusal u 0xFD#8 0#16))

/-! ## System commands -/

/-- NOP (R540). -/
def Obligations.NopDoesNothing : Prop :=
  ∀ (s : State), exec .nop s = if s.config = none then refusal s 0xFD#8 0#16 else completes s

/-- RESET (R541, R543). What a parameter's octet means is log entry 16; the registers that R543 leaves unspecified hold any
value here (log entries 5 to 7). -/
def Obligations.ResetCommand : Prop :=
  ∀ (s : State) (o : ConfigOperand),
    (InRange o → ∃ (t : State) (win : List WinEntry) (tag : Tag) (io : IO), exec (.reset o) s = .next t ∧ t =
      { config := some
          { cotLen := o.cotLen.toNat, caLen := o.caLen.toNat, ioaLen := o.ioaLen.toNat, typeIdLen := 1
            maxAsduLen := o.maxAsduLen.toNat, k := o.k.toNat, w := o.w.toNat, linkAddrLen := o.linkAddrLen.toNat
            linkMode := if o.linkMode = 0#8 then .unbalanced else .balanced
            apciRole := if o.apciRole = 0#8 then .controlled else .controlling
            strictLength := decide (o.strictLength = 1#8), fcsMode := .sum8, privateTypes := o.privateTypes }
        status := 0x00#8, statusInfo := 0#16
        builder := { active := false, sq := false, t := false, pn := false, cot := 0#6, oa := 0#8, ca := 0#16,
                     type := none, raw := false, count := 0#7, firstIoa := 0#24, len := 0#8 }
        asduLen := 0#8
        view := { valid := false, known := false, off := 0#16, len := 0#16, psize := .fixed 0#8,
                  hdr := { type := 0#8, sq := false, count := 0#7, t := false, pn := false, cot := 0#6, oa := 0#8,
                           ca := 0#16 } }
        elem := { valid := false, index := 0#7, io := io }
        link := { valid := false, kind := .single, c := 0#8, a := 0#16, udOff := 0#16, udLen := 0#8, b7 := 0#1,
                  prm := 0#1, b5 := 0#1, b4 := 0#1, fc := 0#4, fclass := .reserved }
        txLen := 0#16
        apci := { vs := 0#15, vr := 0#15, state := .stopped, win := win, winOldest := 0, winCount := 0,
                  unackRx := 0#15, startdtPending := false, stopdtPending := false, testOutstanding := false,
                  respStartdtCon := false, respStopdtCon := false, respTestfrCon := false
                  rx := { kind := .none, ns := 0#15, nr := 0#15, ufn := none, asduOff := 0#16, asduLen := 0#8,
                          retired := 0#15, retiredTag := tag } }
        chk := { sect := 0#8, file := 0#8 }
        rxbuf := s.rxbuf, txbuf := s.txbuf, abuf := s.abuf, input := s.input }) ∧
    (¬ InRange o → exec (.reset o) s = refusal s 0xFE#8 0#16)

/-! ## ASDU unit: builder -/

/-- ASDU_BEGIN (R320). -/
def Obligations.AsduBegin : Prop :=
  ∀ (c : Config) (s : State) (sq t pn : Bool) (cot oa : Byte) (ca : BitVec 16),
    s.config = some c → c.valid = true → s.MemOk →
    let out := exec (.asduBegin sq t pn cot oa ca) s
    if 64 ≤ cot.toNat then out = refusal s 0x08#8 (cot.setWidth 16)
    else if 2 ^ (8 * c.caLen) ≤ ca.toNat then out = refusal s 0x08#8 ca
    else ∃ u, out = .next u ∧
      Wrote s u .abuf 0
        ([0x00#8, if sq = true then 0x80#8 else 0x00#8,
          (if t = true then 0x80#8 else 0x00#8) + (if pn = true then 0x40#8 else 0x00#8) + cot] ++
          (if c.cotLen = 2 then [oa] else []) ++
          (if c.caLen = 2 then [ca.setWidth 8, (ca >>> 8).setWidth 8] else [ca.setWidth 8])) ∧
      u = { s with
            abuf := u.abuf
            builder := { active := true, sq := sq, t := t, pn := pn, cot := cot.setWidth 6
                         oa := if c.cotLen = 2 then oa else 0#8, ca := ca, type := none, raw := false, count := 0#7
                         firstIoa := 0#24, len := BitVec.ofNat 8 (2 + c.cotLen + c.caLen) }
            asduLen := 0#8, status := 0x00#8, statusInfo := 0#16 }

/-- ASDU_ADD_IO (R321). `body?` is check 5's "every body field fits its width" (log entry 11), which FieldValuesPack states. -/
def Obligations.AsduAddIo : Prop :=
  ∀ (c : Config) (s : State) (io : IOOperand),
    s.config = some c → c.valid = true → s.MemOk → builderOk c s.builder →
    let b := s.builder
    let out := exec (.asduAddIo io) s
    if b.active = false then out = refusal s 0x09#8 0#16
    else if b.raw = true then out = refusal s 0x0A#8 0#16
    else if psizeOf? c io.type = none then out = refusal s 0x02#8 (io.type.setWidth 16)
    else if b.type ≠ none ∧ b.type ≠ some io.type then out = refusal s 0x03#8 (io.type.setWidth 16)
    else if 2 ^ (8 * c.ioaLen) ≤ io.ioa.toNat then out = refusal s 0x08#8 0#16
    else
      (io.body.body? = none → out = refusal s 0x08#8 1#16) ∧
      (∀ body, io.body.body? = some body →
        if bodyFits c io.type body = false then out = refusal s 0x08#8 1#16
        else if 127 ≤ b.count.toNat then out = refusal s 0x07#8 0#16
        else if b.sq = true ∧ b.count = 0#7 ∧ seqOk c io.type = false then out = refusal s 0x06#8 (io.type.setWidth 16)
        else if b.sq = true ∧ b.count ≠ 0#7 ∧ io.ioa.toNat ≠ b.firstIoa.toNat + b.count.toNat then
          out = refusal s 0x05#8 (BitVec.ofNat 16 (b.firstIoa.toNat + b.count.toNat))
        else
          let n := (if b.sq = true ∧ b.count ≠ 0#7 then 0 else c.ioaLen) + body.enc.length
          if c.maxAsduLen < b.len.toNat + n then out = refusal s 0x04#8 (BitVec.ofNat 16 (b.len.toNat + n))
          else ∃ t, out = .next t ∧ ObjectAdded c s t io.type io.ioa.toNat body)

/-- Each of the 67 type rows adds an object of its type: ASDU_ADD_IO with the row's fields (log entry 2). -/
def Obligations.TypeRowsAddObjects : Prop :=
  ∀ (i : Instr), i.space = .asduType →
    ∃ (type : TypeId) (ioa : Ioa) (body : Body),
      Instr.ofObject? ioa body = some i ∧ body.typeId? = some type ∧
      ∀ (c : Config) (s : State), s.config = some c → c.valid = true → s.MemOk → builderOk c s.builder →
        Addable c s.builder type.code ioa.toNat body →
        ∃ t, exec i s = .next t ∧ ObjectAdded c s t type.code ioa.toNat body

/-- ASDU_SET_RAW (R322). -/
def Obligations.AsduSetRaw : Prop :=
  ∀ (c : Config) (s : State) (type count : Byte) (data : List Byte),
    s.config = some c → c.valid = true → s.MemOk → builderOk c s.builder → data.length ≤ 255 →
    let b := s.builder
    let out := exec (.asduSetRaw type count data) s
    if b.active = false then out = refusal s 0x09#8 0#16
    else if b.count ≠ 0#7 ∨ b.raw = true then out = refusal s 0x0A#8 0#16
    else if 127 < count.toNat then out = refusal s 0x08#8 (count.setWidth 16)
    else if c.maxAsduLen < b.len.toNat + data.length then
      out = refusal s 0x04#8 (BitVec.ofNat 16 (b.len.toNat + data.length))
    else ∃ t, out = .next t ∧
      t.octetAt .abuf 0 = type ∧ t.octetAt .abuf 1 = (if b.sq = true then 0x80#8 else 0x00#8) + count ∧
      Mem.read t.abuf b.len.toNat data.length = data ∧
      (∀ a, 2 ≤ a → a < b.len.toNat ∨ b.len.toNat + data.length ≤ a → t.octetAt .abuf a = s.octetAt .abuf a) ∧
      t = { s with
            abuf := t.abuf
            builder := { b with type := some type, raw := true, count := count.setWidth 7
                                len := BitVec.ofNat 8 (b.len.toNat + data.length) }
            status := 0x00#8, statusInfo := 0#16 }

/-- ASDU_ENCODE (R323). -/
def Obligations.AsduEncode : Prop :=
  ∀ (c : Config) (s : State), s.config = some c → builderOk c s.builder →
    let out := exec .asduEncode s
    if s.builder.active = false then out = refusal s 0x09#8 0#16
    else if s.builder.type = none then out = refusal s 0x0F#8 0#16
    else out = completes { s with asduLen := s.builder.len } ∧
      (s.builder.raw = false → c.hdrLen < s.builder.len.toNat ∧ s.builder.len.toNat ≤ c.maxAsduLen)

/-! ## ASDU unit: view -/

/-- ASDU_DECODE of an ASDU whose type is not 125 (R324). -/
def Obligations.AsduDecodeFixedSize : Prop :=
  ∀ (c : Config) (s : State) (off len : BitVec 16), s.config = some c → c.valid = true →
    let n := len.toNat
    let os := Mem.read s.rxbuf off.toNat n
    let type := octet os 0
    let failed := { s with view.valid := false, elem.valid := false }
    let out := exec (.asduDecode off len) s
    if 261 < off.toNat + n then out = refusal failed 0x0E#8 off
    else if n < c.hdrLen then out = refusal failed 0x01#8 len
    else type ≠ 125#8 → ∃ h, HeaderOf c os h ∧
      (psizeOf? c type = none →
        out = refusal { s with view := { valid := true, known := false, off := off, len := len, psize := .fixed 0#8
                                         hdr := h }
                               elem.valid := false } 0x02#8 (type.setWidth 16)) ∧
      (∀ size, psizeOf? c type = some (.fixed size) →
        let count := h.count.toNat
        let need := if h.sq = true then c.hdrLen + (if 0 < count then c.ioaLen + count * size.toNat else 0)
          else c.hdrLen + count * (c.ioaLen + size.toNat)
        if n < need then out = refusal failed 0x01#8 (BitVec.ofNat 16 need)
        else if c.strictLength = true ∧ need ≠ n then out = refusal failed 0x01#8 (BitVec.ofNat 16 need)
        else out = completes
          { s with view := { valid := true, known := true, off := off, len := BitVec.ofNat 16 need
                             psize := .fixed size, hdr := h }
                   elem.valid := false })

/-- ASDU_DECODE of file segments, type 125 (R324). That a failed walk clears V_VALID is log entry 12. -/
def Obligations.AsduDecodeSegments : Prop :=
  ∀ (c : Config) (s : State) (off len : BitVec 16) (hd rest : List Byte) (els : List (List Byte)),
    s.config = some c → c.valid = true → off.toNat + len.toNat ≤ 261 →
    Mem.read s.rxbuf off.toNat len.toNat = hd ++ els.flatten ++ rest →
    hd.length = c.hdrLen → octet hd 0 = 125#8 → (∀ e, e ∈ els → SegmentOctets c e) →
    let failed := { s with view.valid := false, elem.valid := false }
    let out := exec (.asduDecode off len) s
    let p := c.hdrLen + els.flatten.length
    let q := p + c.ioaLen + 4 + (octet rest (c.ioaLen + 3)).toNat
    ∃ h, HeaderOf c hd h ∧
      if h.sq = true then out = refusal failed 0x01#8 1#16
      else if els.length = h.count.toNat then
        if c.strictLength = true ∧ rest ≠ [] then out = refusal failed 0x01#8 (BitVec.ofNat 16 p)
        else out = completes
          { s with view := { valid := true, known := true, off := off, len := BitVec.ofNat 16 p, psize := .variable
                             hdr := h }
                   elem.valid := false }
      else if els.length < h.count.toNat then
        (rest.length < c.ioaLen + 4 → out = refusal failed 0x01#8 (BitVec.ofNat 16 p)) ∧
        (c.ioaLen + 4 ≤ rest.length → p + rest.length < q → out = refusal failed 0x01#8 (BitVec.ofNat 16 q))
      else True

/-- ASDU_GET_ELEMENT of a fixed-size type (R325). The body is the one whose encoding is the payload: BodiesBijective says
that there is only one. -/
def Obligations.AsduGetElementFixedSize : Prop :=
  ∀ (c : Config) (s : State) (idx size : Byte),
    s.config = some c → c.valid = true → s.view.valid = true → s.view.known = true →
    psizeOf? c s.view.hdr.type = some (.fixed size) → idx.toNat < s.view.hdr.count.toNat →
    let type := s.view.hdr.type
    let base := s.view.off.toNat + c.hdrLen
    let at_ := if s.view.hdr.sq = true then base else base + idx.toNat * (c.ioaLen + size.toNat)
    let pay := if s.view.hdr.sq = true then base + c.ioaLen + idx.toNat * size.toNat else at_ + c.ioaLen
    let field := fromLE (Mem.read s.rxbuf at_ c.ioaLen)
    let ioa := if s.view.hdr.sq = true then (field + idx.toNat) % 2 ^ (8 * c.ioaLen) else field
    pay + size.toNat ≤ 261 →
    ∃ body, bodyFits c type body = true ∧ body.enc = Mem.read s.rxbuf pay size.toNat ∧
      let t := { s with elem := { valid := true, index := idx.setWidth 7
                                  io := { type := type, ioa := BitVec.ofNat 24 ioa, body := body } } }
      exec (.asduGetElement idx) s =
        if type ∈ [70#8, 100#8, 101#8, 103#8, 104#8, 105#8, 106#8, 107#8] ∧ ioa ≠ 0 then
          refusal t 0x0D#8 (BitVec.ofNat 16 ioa)
        else completes t

/-- ASDU_GET_ELEMENT of a file segment (R325). -/
def Obligations.AsduGetElementSegment : Prop :=
  ∀ (c : Config) (s : State) (idx : Byte) (els : List (List Byte)) (e : List Byte),
    s.config = some c → c.valid = true → s.view.valid = true → s.view.known = true → s.view.hdr.type = 125#8 →
    idx.toNat < s.view.hdr.count.toNat → els.length = idx.toNat → (∀ x, x ∈ els → SegmentOctets c x) →
    SegmentOctets c e →
    s.view.off.toNat + c.hdrLen + (els.flatten ++ e).length ≤ 261 →
    Mem.read s.rxbuf (s.view.off.toNat + c.hdrLen) (els.flatten ++ e).length = els.flatten ++ e →
    ∃ body, bodyFits c 125#8 body = true ∧ body.enc = e.drop c.ioaLen ∧
      exec (.asduGetElement idx) s = completes
        { s with elem := { valid := true, index := idx.setWidth 7
                           io := { type := 125#8, ioa := BitVec.ofNat 24 (fromLE (e.take c.ioaLen))
                                   body := body } } }

/-- The refusals of ASDU_GET_ELEMENT (R325). -/
def Obligations.AsduGetElementRefusals : Prop :=
  ∀ (c : Config) (s : State) (idx : Byte), s.config = some c →
    let failed := { s with elem.valid := false }
    let out := exec (.asduGetElement idx) s
    (s.view.valid = false → out = refusal failed 0x0B#8 0#16) ∧
    (s.view.valid = true → s.view.known = false → out = refusal failed 0x02#8 (s.view.hdr.type.setWidth 16)) ∧
    (s.view.valid = true → s.view.known = true → s.view.hdr.count.toNat ≤ idx.toNat →
      out = refusal failed 0x0C#8 (idx.setWidth 16))

/-- ASDU_REWRITE_COT (R326). -/
def Obligations.AsduRewriteCot : Prop :=
  ∀ (c : Config) (s : State) (cot : Byte) (pn : Bool),
    s.config = some c → c.valid = true → s.MemOk → viewOk c s.view s.rxbuf →
    let v := s.view
    let out := exec (.asduRewriteCot cot pn) s
    if v.valid = false then out = refusal s 0x0B#8 0#16
    else if 64 ≤ cot.toNat then out = refusal s 0x08#8 (cot.setWidth 16)
    else if 255 < v.len.toNat then out = refusal s 0x04#8 v.len
    else ∃ t, out = .next t ∧
      Wrote s t .abuf 0 ((Mem.read s.rxbuf v.off.toNat v.len.toNat).set 2
        ((if v.hdr.t = true then 0x80#8 else 0x00#8) + (if pn = true then 0x40#8 else 0x00#8) + cot)) ∧
      t = { s with abuf := t.abuf, asduLen := v.len.setWidth 8, builder.active := false
                   status := 0x00#8, statusInfo := 0#16 }

/-! ## FT1.2 unit -/

/-- FT12_ENC_FIXED (R362). -/
def Obligations.Ft12EncFixed : Prop :=
  ∀ (c : Config) (s : State) (ctl : Byte) (a : BitVec 16), s.config = some c → c.valid = true → s.MemOk →
    let addr := leOctets c.linkAddrLen a.toNat
    let out := exec (.ft12EncFixed ctl a) s
    if 2 ^ (8 * c.linkAddrLen) ≤ a.toNat then out = refusal s 0x08#8 a
    else ∃ t, out = .next t ∧
      Sent s t ([0x10#8, ctl] ++ addr ++ [sum8 (ctl :: addr), 0x16#8]) s.apci ∧
      t.txLen.toNat = 4 + c.linkAddrLen

/-- FT12_ENC_VAR (R363). -/
def Obligations.Ft12EncVar : Prop :=
  ∀ (c : Config) (s : State) (ctl : Byte) (a : BitVec 16), s.config = some c → c.valid = true → s.MemOk →
    let addr := leOctets c.linkAddrLen a.toNat
    let n := s.asduLen.toNat
    let ud := Mem.read s.abuf 0 n
    let l := BitVec.ofNat 8 (1 + c.linkAddrLen + n)
    let out := exec (.ft12EncVar ctl a) s
    if 2 ^ (8 * c.linkAddrLen) ≤ a.toNat then out = refusal s 0x08#8 a
    else if n = 0 then out = refusal s 0x19#8 0#16
    else if 254 - c.linkAddrLen < n then out = refusal s 0x22#8 (s.asduLen.setWidth 16)
    else ∃ t, out = .next t ∧
      Sent s t ([0x68#8, l, l, 0x68#8, ctl] ++ addr ++ ud ++ [sum8 (ctl :: addr ++ ud), 0x16#8]) s.apci ∧
      t.txLen.toNat = 1 + c.linkAddrLen + n + 6

/-- FT12_ENC_SINGLE (R364). -/
def Obligations.Ft12EncSingle : Prop :=
  ∀ (c : Config) (s : State), s.config = some c → s.MemOk →
    ∃ t, exec .ft12EncSingle s = .next t ∧ Sent s t [0xE5#8] s.apci

/-- FT12_DECODE (R365). -/
def Obligations.Ft12DecodeCommand : Prop :=
  ∀ (c : Config) (s : State) (len : BitVec 16), s.config = some c → c.valid = true →
    if 261 < len.toNat then exec (.ft12Decode len) s = refusal { s with link.valid := false } 0x0E#8 0#16
    else LinkOutcome c s (exec (.ft12Decode len) s) (Mem.read s.rxbuf 0 len.toNat)

/-- The frame rows receive a frame as FT12_DECODE does (log entries 2 and 10). -/
def Obligations.Ft12FrameRows : Prop :=
  ∀ (c : Config) (s : State), s.config = some c → c.valid = true → s.MemOk →
    (∀ tail : List Byte, tail.length ≤ 260 →
      (∃ u, Delivered s u (0x10#8 :: tail) ∧ LinkOutcome c u (exec (.ft12Fixed tail) s) (0x10#8 :: tail)) ∧
      (∃ u, Delivered s u (0x68#8 :: tail) ∧ LinkOutcome c u (exec (.ft12Variable tail) s) (0x68#8 :: tail)) ∧
      (∃ u, Delivered s u (0xE5#8 :: tail) ∧ LinkOutcome c u (exec (.ft12Single tail) s) (0xE5#8 :: tail))) ∧
    (∀ (ctl : Byte) (addr ud : List Byte), addr.length = c.linkAddrLen → 1 + addr.length + ud.length ≤ 255 →
      let name := fclass c.linkMode (ctl.extractLsb' 6 1) (ctl.extractLsb' 0 4)
      let l := BitVec.ofNat 8 (1 + addr.length + ud.length)
      ReceivesFixed s (exec (.ft12Fixed ([ctl] ++ addr ++ [sum8 (ctl :: addr), 0x16#8])) s) ctl addr name ∧
      ReceivesVariable s
        (exec (.ft12Variable ([l, l, 0x68#8, ctl] ++ addr ++ ud ++ [sum8 (ctl :: addr ++ ud), 0x16#8])) s)
        ctl addr ud name) ∧
    (∃ u, Delivered s u [0xE5#8] ∧ exec (.ft12Single []) s =
      completes { u with link := linkRegisters .single 0x00#8 [] [] .none })

/-- Each unbalanced function code row is received with the name of its rule (45_ft12_link.md R370 to R390; log
entries 2, 10 and 21). -/
def Obligations.UnbalancedFunctionCodes : Prop :=
  ∀ (c : Config) (s : State) (b7 b5 b4 : BitVec 1) (addr ud : List Byte),
    s.config = some c → c.valid = true → s.MemOk → c.linkMode = .unbalanced → addr.length = c.linkAddrLen →
    1 + addr.length + ud.length ≤ 255 →
    ReceivesFixed s (exec (.unbPriResetRemoteLink b7 b5 b4 addr) s) (b7 ++ 1#1 ++ b5 ++ b4 ++ 0#4) addr .resetRemoteLink ∧
    ReceivesFixed s (exec (.unbPriResetUserProcess b7 b5 b4 addr) s) (b7 ++ 1#1 ++ b5 ++ b4 ++ 1#4) addr .resetUserProcess ∧
    ReceivesVariable s (exec (.unbPriUserDataConfirm b7 b5 b4 addr ud) s) (b7 ++ 1#1 ++ b5 ++ b4 ++ 3#4) addr ud .userDataConfirm ∧
    ReceivesVariable s (exec (.unbPriUserDataNoReply b7 b5 b4 addr ud) s) (b7 ++ 1#1 ++ b5 ++ b4 ++ 4#4) addr ud .userDataNoReply ∧
    ReceivesFixed s (exec (.unbPriRequestAccessDemand b7 b5 b4 addr) s) (b7 ++ 1#1 ++ b5 ++ b4 ++ 8#4) addr .requestAccessDemand ∧
    ReceivesFixed s (exec (.unbPriRequestLinkStatus b7 b5 b4 addr) s) (b7 ++ 1#1 ++ b5 ++ b4 ++ 9#4) addr .requestLinkStatus ∧
    ReceivesFixed s (exec (.unbPriRequestClass1 b7 b5 b4 addr) s) (b7 ++ 1#1 ++ b5 ++ b4 ++ 10#4) addr .requestClass1 ∧
    ReceivesFixed s (exec (.unbPriRequestClass2 b7 b5 b4 addr) s) (b7 ++ 1#1 ++ b5 ++ b4 ++ 11#4) addr .requestClass2 ∧
    ReceivesFixed s (exec (.unbSecAck b7 b5 b4 addr) s) (b7 ++ 0#1 ++ b5 ++ b4 ++ 0#4) addr .ack ∧
    ReceivesFixed s (exec (.unbSecNackBusy b7 b5 b4 addr) s) (b7 ++ 0#1 ++ b5 ++ b4 ++ 1#4) addr .nackBusy ∧
    ReceivesVariable s (exec (.unbSecUserData b7 b5 b4 addr ud) s) (b7 ++ 0#1 ++ b5 ++ b4 ++ 8#4) addr ud .userData ∧
    ReceivesFixed s (exec (.unbSecNackNoData b7 b5 b4 addr) s) (b7 ++ 0#1 ++ b5 ++ b4 ++ 9#4) addr .nackNoData ∧
    ReceivesFixed s (exec (.unbSecLinkStatus b7 b5 b4 addr) s) (b7 ++ 0#1 ++ b5 ++ b4 ++ 11#4) addr .linkStatus ∧
    ReceivesFixed s (exec (.unbSecLinkNotFunctioning b7 b5 b4 addr) s) (b7 ++ 0#1 ++ b5 ++ b4 ++ 14#4) addr .linkNotFunctioning ∧
    ReceivesFixed s (exec (.unbSecLinkNotImplemented b7 b5 b4 addr) s) (b7 ++ 0#1 ++ b5 ++ b4 ++ 15#4) addr .linkNotImplemented

/-- Each balanced function code row is received with the name of its rule (45_ft12_link.md R378 to R395; log
entries 2, 10 and 21). -/
def Obligations.BalancedFunctionCodes : Prop :=
  ∀ (c : Config) (s : State) (b7 b5 b4 : BitVec 1) (addr ud : List Byte),
    s.config = some c → c.valid = true → s.MemOk → c.linkMode = .balanced → addr.length = c.linkAddrLen →
    1 + addr.length + ud.length ≤ 255 →
    ReceivesFixed s (exec (.balPriResetRemoteLink b7 b5 b4 addr) s) (b7 ++ 1#1 ++ b5 ++ b4 ++ 0#4) addr .resetRemoteLink ∧
    ReceivesFixed s (exec (.balPriResetUserProcess b7 b5 b4 addr) s) (b7 ++ 1#1 ++ b5 ++ b4 ++ 1#4) addr .resetUserProcess ∧
    ReceivesFixed s (exec (.balPriTestLink b7 b5 b4 addr) s) (b7 ++ 1#1 ++ b5 ++ b4 ++ 2#4) addr .testLink ∧
    ReceivesVariable s (exec (.balPriUserDataConfirm b7 b5 b4 addr ud) s) (b7 ++ 1#1 ++ b5 ++ b4 ++ 3#4) addr ud .userDataConfirm ∧
    ReceivesVariable s (exec (.balPriUserDataNoReply b7 b5 b4 addr ud) s) (b7 ++ 1#1 ++ b5 ++ b4 ++ 4#4) addr ud .userDataNoReply ∧
    ReceivesFixed s (exec (.balPriRequestLinkStatus b7 b5 b4 addr) s) (b7 ++ 1#1 ++ b5 ++ b4 ++ 9#4) addr .requestLinkStatus ∧
    ReceivesFixed s (exec (.balSecAck b7 b5 b4 addr) s) (b7 ++ 0#1 ++ b5 ++ b4 ++ 0#4) addr .ack ∧
    ReceivesFixed s (exec (.balSecNackBusy b7 b5 b4 addr) s) (b7 ++ 0#1 ++ b5 ++ b4 ++ 1#4) addr .nackBusy ∧
    ReceivesFixed s (exec (.balSecLinkStatus b7 b5 b4 addr) s) (b7 ++ 0#1 ++ b5 ++ b4 ++ 11#4) addr .linkStatus ∧
    ReceivesFixed s (exec (.balSecLinkNotFunctioning b7 b5 b4 addr) s) (b7 ++ 0#1 ++ b5 ++ b4 ++ 14#4) addr .linkNotFunctioning ∧
    ReceivesFixed s (exec (.balSecLinkNotImplemented b7 b5 b4 addr) s) (b7 ++ 0#1 ++ b5 ++ b4 ++ 15#4) addr .linkNotImplemented

/-- Every function code that no rule names is reported as RESERVED -/
def Obligations.ReservedFunctionCodes : Prop :=
  (∀ fc : BitVec 4, fc.toNat ∈ [2, 5, 6, 7, 12, 13, 14, 15] → fclass .unbalanced 1#1 fc = .reserved) ∧
  (∀ fc : BitVec 4, fc.toNat ∈ [5, 6, 7, 8, 10, 11, 12, 13, 14, 15] → fclass .balanced 1#1 fc = .reserved) ∧
  (∀ fc : BitVec 4, fc.toNat ∈ [2, 3, 4, 5, 6, 7, 10, 12, 13] → fclass .unbalanced 0#1 fc = .reserved) ∧
  (∀ fc : BitVec 4, fc.toNat ∈ [2, 3, 4, 5, 6, 7, 8, 9, 10, 12, 13] → fclass .balanced 0#1 fc = .reserved)

/-- A frame with one wrong octet under its checksum is refused with FT12_CHECKSUM -/
def Obligations.Ft12ChecksumCatchesOneWrongOctet : Prop :=
  ∀ (c : Config) (s : State) (len : BitVec 16) (body : List Byte) (i : Nat) (b : Byte),
    s.config = some c → c.valid = true → 1 + c.linkAddrLen ≤ body.length → body.length ≤ 255 →
    i < body.length → b ≠ octet body i → len.toNat = body.length + 6 →
    Mem.read s.rxbuf 0 len.toNat =
      [0x68#8, BitVec.ofNat 8 body.length, BitVec.ofNat 8 body.length, 0x68#8] ++ body.set i b ++
        [sum8 body, 0x16#8] →
    exec (.ft12Decode len) s = refusal { s with link.valid := false } 0x21#8 (BitVec.ofNat 16 (4 + body.length))

/-! ## APCI unit -/

/-- APCI_RECEIVE (R417 to R425). -/
def Obligations.ApciReceive : Prop :=
  ∀ (c : Config) (s : State) (len : BitVec 16),
    s.config = some c → c.valid = true → windowOk c s.apci →
    let n := len.toNat
    let r := Mem.read s.rxbuf 0 n
    let l := (octet r 1).toNat
    let nr : SeqNo := octet r 5 ++ (octet r 4).extractLsb' 1 7
    let out := exec (.apciReceive len) s
    if s.apci.state = .faulted then out = refusal s 0x15#8 0#16
    else if 261 < n then out = refusal s 0x0E#8 0#16
    else if n < 6 then out = fatally s 0x10#8 len
    else if octet r 0 ≠ 0x68#8 then out = fatally s 0x10#8 0#16
    else if l < 4 ∨ 253 < l ∨ n ≠ l + 2 then out = fatally s 0x10#8 1#16
    else if (octet r 2).toNat % 2 = 0 then IOutcome c s out (octet r 3 ++ (octet r 2).extractLsb' 1 7) nr (l - 4)
    else if l ≠ 4 then out = fatally s 0x10#8 1#16
    else if octet r 2 = 0x01#8 then SOutcome c s out nr
    else if octet r 2 = 0x07#8 then UResult c s out .startdtAct
    else if octet r 2 = 0x0B#8 then UResult c s out .startdtCon
    else if octet r 2 = 0x13#8 then UResult c s out .stopdtAct
    else if octet r 2 = 0x23#8 then UResult c s out .stopdtCon
    else if octet r 2 = 0x43#8 then UResult c s out .testfrAct
    else if octet r 2 = 0x83#8 then UResult c s out .testfrCon
    else out = fatally s 0x10#8 2#16

/-- The row I_FRAME (R418; log entries 2 and 10). -/
def Obligations.IFrameRow : Prop :=
  ∀ (c : Config) (s : State) (ns7 : BitVec 7) (ctrl2 ctrl3 ctrl4 : Byte) (tail : List Byte),
    s.config = some c → c.valid = true → s.MemOk → windowOk c s.apci → tail.length ≤ 251 →
    let out := exec (.iFrame ns7 ctrl2 ctrl3 ctrl4 tail) s
    ∃ u, Delivered s u ([0x68#8, BitVec.ofNat 8 (4 + tail.length), ns7 ++ 0#1, ctrl2, ctrl3, ctrl4] ++ tail) ∧
      if s.apci.state = .faulted then out = refusal u 0x15#8 0#16
      else if 249 < tail.length then out = fatally u 0x10#8 1#16
      else IOutcome c u out (ctrl2 ++ ns7) (ctrl4 ++ ctrl3.extractLsb' 1 7) tail.length

/-- The row S_FRAME (R419; log entries 2 and 10). -/
def Obligations.SFrameRow : Prop :=
  ∀ (c : Config) (s : State) (ctrl2 ctrl3 ctrl4 : Byte) (tail : List Byte),
    s.config = some c → c.valid = true → s.MemOk → windowOk c s.apci → tail.length ≤ 251 →
    let out := exec (.sFrame ctrl2 ctrl3 ctrl4 tail) s
    ∃ u, Delivered s u ([0x68#8, BitVec.ofNat 8 (4 + tail.length), 0x01#8, ctrl2, ctrl3, ctrl4] ++ tail) ∧
      if s.apci.state = .faulted then out = refusal u 0x15#8 0#16
      else if tail ≠ [] then out = fatally u 0x10#8 1#16
      else SOutcome c u out (ctrl4 ++ ctrl3.extractLsb' 1 7)

/-- The six U-frame rows (R420 to R425; log entries 2 and 10). `uRow` names each function's row. -/
def Obligations.UFrameRows : Prop :=
  ∀ (c : Config) (s : State) (fn : Ufn) (ctrl2 ctrl3 ctrl4 : Byte) (tail : List Byte),
    s.config = some c → c.valid = true → s.MemOk → tail.length ≤ 251 →
    let ctrl1 := match fn with
      | .startdtAct => 0x07#8
      | .startdtCon => 0x0B#8
      | .stopdtAct => 0x13#8
      | .stopdtCon => 0x23#8
      | .testfrAct => 0x43#8
      | .testfrCon => 0x83#8
    let out := exec (uRow fn ctrl2 ctrl3 ctrl4 tail) s
    ∃ u, Delivered s u ([0x68#8, BitVec.ofNat 8 (4 + tail.length), ctrl1, ctrl2, ctrl3, ctrl4] ++ tail) ∧
      if s.apci.state = .faulted then out = refusal u 0x15#8 0#16
      else if tail ≠ [] then out = fatally u 0x10#8 1#16
      else UResult c u out fn

/-- APCI_SEND_I (R426). -/
def Obligations.ApciSendI : Prop :=
  ∀ (c : Config) (s : State) (tag : Tag), s.config = some c → c.valid = true → s.MemOk →
    let a := s.apci
    let n := s.asduLen.toNat
    let out := exec (.apciSendI tag) s
    if a.state = .faulted then out = refusal s 0x15#8 0#16
    else if a.state ≠ .started then out = refusal s 0x17#8 0#16
    else if c.k ≤ a.winCount then out = refusal s 0x14#8 (BitVec.ofNat 16 a.winCount)
    else if n = 0 then out = refusal s 0x19#8 0#16
    else if 249 < n then out = refusal s 0x16#8 (s.asduLen.setWidth 16)
    else ∃ t, out = .next t ∧
      Sent s t ([0x68#8, BitVec.ofNat 8 (4 + n)] ++ seqOctets a.vs ++ seqOctets a.vr ++ Mem.read s.abuf 0 n)
        { a with win := a.win.set ((a.winOldest + a.winCount) % c.k) { seq := a.vs, tag := tag }
                 winCount := a.winCount + 1, vs := a.vs + 1#15, unackRx := 0#15 } ∧
      t.txLen.toNat = n + 6

/-- APCI_SEND_S (R427). -/
def Obligations.ApciSendS : Prop :=
  ∀ (c : Config) (s : State), s.config = some c → s.MemOk →
    let out := exec .apciSendS s
    if s.apci.state = .faulted then out = refusal s 0x15#8 0#16
    else if s.apci.state = .stopped then out = refusal s 0x17#8 0#16
    else ∃ t, out = .next t ∧
      Sent s t ([0x68#8, 0x04#8, 0x01#8, 0x00#8] ++ seqOctets s.apci.vr) { s.apci with unackRx := 0#15 }

/-- APCI_SEND_U (R428). -/
def Obligations.ApciSendU : Prop :=
  ∀ (c : Config) (s : State) (fn : Ufn), s.config = some c → s.MemOk →
    let ctrl1 := match fn with
      | .startdtAct => 0x07#8
      | .startdtCon => 0x0B#8
      | .stopdtAct => 0x13#8
      | .stopdtCon => 0x23#8
      | .testfrAct => 0x43#8
      | .testfrCon => 0x83#8
    let out := exec (.apciSendU fn) s
    (s.apci.state = .faulted → out = refusal s 0x15#8 0#16) ∧
    (s.apci.state ≠ .faulted → (∀ a, ¬ USendable c.apciRole s.apci fn a) →
      out = refusal s 0x18#8 (ctrl1.setWidth 16)) ∧
    (s.apci.state ≠ .faulted → ∀ a, USendable c.apciRole s.apci fn a →
      ∃ t, out = .next t ∧ Sent s t [0x68#8, 0x04#8, ctrl1, 0x00#8, 0x00#8, 0x00#8] a)

/-- APCI_RESET (R429). -/
def Obligations.ApciResetCommand : Prop :=
  ∀ (c : Config) (s : State), s.config = some c →
    exec .apciReset s = completes
      { s with apci := { vs := 0#15, vr := 0#15, state := .stopped, win := s.apci.win, winOldest := 0, winCount := 0
                         unackRx := 0#15, startdtPending := false, stopdtPending := false, testOutstanding := false
                         respStartdtCon := false, respStopdtCon := false, respTestfrCon := false
                         rx := { kind := .none, ns := 0#15, nr := 0#15, ufn := none, asduOff := 0#16, asduLen := 0#8
                                 retired := 0#15, retiredTag := s.apci.rx.retiredTag } } }

/-- FAULTED is sticky (R502, R503). -/
def Obligations.FaultedIsSticky : Prop :=
  (∀ (s t : State) (len : BitVec 16), exec (.apciReceive len) s = .next t →
    t.status ∈ [0x10#8, 0x11#8, 0x12#8, 0x13#8] →
    t = { s with apci.state := .faulted, status := t.status, statusInfo := t.statusInfo }) ∧
  (∀ (c : Config) (s : State), s.config = some c → s.apci.state = .faulted →
    (∀ len, exec (.apciReceive len) s = refusal s 0x15#8 0#16) ∧ (∀ tag, exec (.apciSendI tag) s = refusal s 0x15#8 0#16) ∧
    exec .apciSendS s = refusal s 0x15#8 0#16 ∧ (∀ fn, exec (.apciSendU fn) s = refusal s 0x15#8 0#16)) ∧
  (∀ (i : Instr) (s t : State), exec i s = .next t → s.apci.state = .faulted → (∀ cfg, i ≠ .reset cfg) →
    i ≠ .apciReset → t.apci = s.apci)

/-- Taking the same S-frame again retires nothing and changes nothing -/
def Obligations.ConfirmationIsIdempotent : Prop :=
  ∀ (c : Config) (s t : State) (len : BitVec 16),
    s.config = some c → c.valid = true → windowOk c s.apci → exec (.apciReceive len) s = .next t → t.status = 0x00#8 →
    t.apci.rx.kind = .s → t.apci.state ≠ .stopped →
    exec (.apciReceive len) t = .next { t with apci.rx.retired := 0#15 }

/-- An I-frame that one station sends is accepted by a peer that expects it, with the same ASDU octets -/
def Obligations.SentIFrameIsAccepted : Prop :=
  ∀ (c d : Config) (s t p u : State) (tag : Tag),
    s.config = some c → c.valid = true → s.MemOk → exec (.apciSendI tag) s = .next t → t.status = 0x00#8 →
    p.config = some d → d.valid = true → p.MemOk → windowOk d p.apci →
    p.apci.state = .started ∨ p.apci.state = .unconfirmedStopped → p.apci.vr = s.apci.vs → NrValid p.apci s.apci.vr →
    Delivered p u (Mem.read t.txbuf 0 t.txLen.toNat) →
    ∃ q, exec (.apciReceive t.txLen) u = .next q ∧ q.status = 0x00#8 ∧ q.apci.rx.kind = .i ∧
      q.apci.vr = p.apci.vr + 1#15 ∧ q.apci.rx.asduOff = 6#16 ∧ q.apci.rx.asduLen = s.asduLen ∧
      Mem.read q.rxbuf 6 s.asduLen.toNat = Mem.read s.abuf 0 s.asduLen.toNat

/-! ## Checksum unit -/

/-- CHK_RESET_FILE (R471), CHK_BEGIN_SECTION (R472) and CHK_CLOSE_SECTION (R476). -/
def Obligations.ChkStartAndClose : Prop :=
  ∀ (c : Config) (s : State), s.config = some c →
    exec .chkResetFile s = completes { s with chk := { sect := 0#8, file := 0#8 } } ∧
    exec .chkBeginSection s = completes { s with chk := { sect := 0#8, file := s.chk.file } } ∧
    exec .chkCloseSection s = completes { s with chk := { sect := 0#8, file := s.chk.file + s.chk.sect } }

/-- CHK_ADD (R473). -/
def Obligations.ChkAdd : Prop :=
  ∀ (c : Config) (s : State) (b : Buf) (off len : BitVec 16), s.config = some c →
    let size := match b with
      | .rxbuf => 261
      | .txbuf => 261
      | .abuf => 255
    exec (.chkAdd b off len) s =
      if size < off.toNat + len.toNat then refusal s 0x0E#8 off
      else completes { s with chk.sect := s.chk.sect + sum8 (Mem.read (s.buf b) off.toNat len.toNat) }

/-- CHK_ADD_ELEMENT (R474). -/
def Obligations.ChkAddElement : Prop :=
  ∀ (c : Config) (s : State), s.config = some c →
    (s.elem.valid = false → exec .chkAddElement s = refusal s 0x0B#8 0#16) ∧
    (s.elem.valid = true → s.elem.io.type ≠ 125#8 →
      exec .chkAddElement s = refusal s 0x03#8 (s.elem.io.type.setWidth 16)) ∧
    (s.elem.valid = true → s.elem.io.type = 125#8 → ∀ nof nos seg, s.elem.io.body = .fSgNa1 nof nos seg →
      exec .chkAddElement s = completes { s with chk.sect := s.chk.sect + sum8 seg })

/-- CHK_CHECK_SECTION (R475) and CHK_CHECK_FILE (R477). -/
def Obligations.ChkChecks : Prop :=
  ∀ (c : Config) (s : State) (chs : Byte), s.config = some c →
    (exec (.chkCheckSection chs) s =
      if chs = s.chk.sect then completes { s with chk := { sect := 0#8, file := s.chk.file + s.chk.sect } }
      else refusal { s with chk := { sect := 0#8, file := s.chk.file } } 0x30#8 (s.chk.sect.setWidth 16)) ∧
    (exec (.chkCheckFile chs) s =
      if chs = s.chk.file then completes s else refusal s 0x30#8 (s.chk.file.setWidth 16))

/-- SUM8 is the sum of the octets modulo 256, 0 of the empty string, and additive -/
def Obligations.Sum8OfJoinedStrings : Prop :=
  (∀ a : List Byte, (sum8 a).toNat = (a.map BitVec.toNat).sum % 256) ∧
  (∀ a b : List Byte, sum8 (a ++ b) = sum8 a + sum8 b)

/-! ## Rules of the whole machine -/

/-- No instruction but RESET changes the configuration -/
def Obligations.OnlyResetConfigures : Prop :=
  ∀ (i : Instr) (s t : State), exec i s = .next t → (∀ cfg, i ≠ .reset cfg) → t.config = s.config

/-- Which commands write which buffer (20_memory.md R72). R72 lists commands; the last two clauses, on the rows that are no
commands, are the model's reading of those rows (log entry 2). -/
def Obligations.BufferAccess : Prop :=
  ∀ (i : Instr) (s t : State), exec i s = .next t →
    (i.space = .command →
      t.rxbuf = s.rxbuf ∧
      (t.txbuf = s.txbuf ∨ (∃ c a, i = .ft12EncFixed c a) ∨ (∃ c a, i = .ft12EncVar c a) ∨ i = .ft12EncSingle ∨
        (∃ tag, i = .apciSendI tag) ∨ i = .apciSendS ∨ ∃ fn, i = .apciSendU fn) ∧
      (t.abuf = s.abuf ∨ (∃ sq tf pn cot oa ca, i = .asduBegin sq tf pn cot oa ca) ∨ (∃ io, i = .asduAddIo io) ∨
        (∃ type count data, i = .asduSetRaw type count data) ∨ ∃ cot pn, i = .asduRewriteCot cot pn)) ∧
    (i.space = .asduType → t.rxbuf = s.rxbuf ∧ t.txbuf = s.txbuf) ∧
    (i.space ≠ .command → i.space ≠ .asduType → t.txbuf = s.txbuf ∧ t.abuf = s.abuf)

/-- A refused command changes nothing but the status and the writes its rule lists for a failure (R24, R501). That a type row
is a command, ASDU_ADD_IO, is the model's reading (log entry 2). -/
def Obligations.RefusalChangesNothing : Prop :=
  ∀ (i : Instr) (s t : State), exec i s = .next t → i.space = .command ∨ i.space = .asduType →
    t.status ≠ 0x00#8 → t.status ≠ 0x0D#8 → ¬ (t.status = 0x18#8 ∧ ∃ len, i = .apciReceive len) →
    ¬ (t.status = 0x02#8 ∧ ∃ off len, i = .asduDecode off len) →
    t = { s with status := t.status, statusInfo := t.statusInfo, view.valid := t.view.valid
                 elem.valid := t.elem.valid, link.valid := t.link.valid, chk.sect := t.chk.sect
                 apci.state := t.apci.state } ∧
    (t.view.valid = s.view.valid ∨ t.view.valid = false ∧ ∃ off len, i = .asduDecode off len) ∧
    (t.elem.valid = s.elem.valid ∨ t.elem.valid = false ∧
      ((∃ off len, i = .asduDecode off len) ∨ ∃ idx, i = .asduGetElement idx)) ∧
    (t.link.valid = s.link.valid ∨ t.link.valid = false ∧ ∃ len, i = .ft12Decode len) ∧
    (t.chk.sect = s.chk.sect ∨ t.chk.sect = 0#8 ∧ ∃ chs, i = .chkCheckSection chs) ∧
    (t.apci.state = s.apci.state ∨ t.apci.state = .faulted ∧ ∃ len, i = .apciReceive len)

/-- VS moves only by sending an I-frame, VR only by accepting one, each by one; else only a reset clears them -/
def Obligations.CountersMove : Prop :=
  ∀ (i : Instr) (s t : State), exec i s = .next t →
    (t.apci.vs = s.apci.vs ∨ (t.apci.vs = s.apci.vs + 1#15 ∧ t.status = 0x00#8 ∧ ∃ tag, i = .apciSendI tag) ∨
      (t.apci.vs = 0#15 ∧ (i = .apciReset ∨ ∃ cfg, i = .reset cfg))) ∧
    (t.apci.vr = s.apci.vr ∨
      (t.apci.vr = s.apci.vr + 1#15 ∧ t.status = 0x00#8 ∧ t.apci.rx.kind = .i ∧ t.apci.rx.ns = s.apci.vr ∧
        ((∃ len, i = .apciReceive len) ∨ ∃ ns7 c2 c3 c4 tail, i = .iFrame ns7 c2 c3 c4 tail)) ∨
      (t.apci.vr = 0#15 ∧ (i = .apciReset ∨ ∃ cfg, i = .reset cfg)))

/-! ## Codecs -/

/-- The octets of each information element (41_primitive_codecs.md R151 to R190). -/
def Obligations.ElementOctets : Prop :=
  (∀ e : SIQ, e.enc = [e.iv ++ e.nt ++ e.sb ++ e.bl ++ e.res ++ e.spi]) ∧
  (∀ e : DIQ, e.enc = [e.iv ++ e.nt ++ e.sb ++ e.bl ++ e.res ++ e.dpi]) ∧
  (∀ e : QDS, e.enc = [e.iv ++ e.nt ++ e.sb ++ e.bl ++ e.res ++ e.ov]) ∧
  (∀ e : VTI, e.enc = [e.t ++ e.val]) ∧
  (∀ e : NVA, e.enc = [e.raw.extractLsb' 0 8, e.raw.extractLsb' 8 8]) ∧
  (∀ e : SVA, e.enc = [e.val.extractLsb' 0 8, e.val.extractLsb' 8 8]) ∧
  (∀ e : R32, e.enc = [e.bits.extractLsb' 0 8, e.bits.extractLsb' 8 8, e.bits.extractLsb' 16 8,
      e.bits.extractLsb' 24 8]) ∧
  (∀ e : BSI, e.enc = [e.bits.extractLsb' 0 8, e.bits.extractLsb' 8 8, e.bits.extractLsb' 16 8,
      e.bits.extractLsb' 24 8]) ∧
  (∀ e : BCR, e.enc = [e.counter.extractLsb' 0 8, e.counter.extractLsb' 8 8, e.counter.extractLsb' 16 8,
      e.counter.extractLsb' 24 8, e.iv ++ e.ca ++ e.cy ++ e.sqn]) ∧
  (∀ e : SEP, e.enc = [e.iv ++ e.nt ++ e.sb ++ e.bl ++ e.ei ++ e.res ++ e.es]) ∧
  (∀ e : SPE, e.enc = [e.res ++ e.srd ++ e.sie ++ e.sl3 ++ e.sl2 ++ e.sl1 ++ e.gs]) ∧
  (∀ e : OCI, e.enc = [e.res ++ e.cl3 ++ e.cl2 ++ e.cl1 ++ e.gc]) ∧
  (∀ e : QDP, e.enc = [e.iv ++ e.nt ++ e.sb ++ e.bl ++ e.ei ++ e.res]) ∧
  (∀ e : SCD, e.enc = [e.st.extractLsb' 0 8, e.st.extractLsb' 8 8, e.cd.extractLsb' 0 8, e.cd.extractLsb' 8 8]) ∧
  (∀ e : CP16Time2a, e.enc = [e.ms.extractLsb' 0 8, e.ms.extractLsb' 8 8]) ∧
  (∀ e : CP24Time2a, e.enc = [e.ms.extractLsb' 0 8, e.ms.extractLsb' 8 8, e.iv ++ e.res1 ++ e.min]) ∧
  (∀ e : CP56Time2a, e.enc = [e.ms.extractLsb' 0 8, e.ms.extractLsb' 8 8, e.iv ++ e.res1 ++ e.min,
      e.su ++ e.res2 ++ e.hour, e.dow ++ e.day, e.res3 ++ e.mon, e.res4 ++ e.year]) ∧
  (∀ e : SCO, e.enc = [e.se ++ e.qu ++ e.res ++ e.scs]) ∧
  (∀ e : DCO, e.enc = [e.se ++ e.qu ++ e.dcs]) ∧
  (∀ e : RCO, e.enc = [e.se ++ e.qu ++ e.rcs]) ∧
  (∀ e : QOS, e.enc = [e.se ++ e.ql]) ∧
  (∀ e : QOI, e.enc = [e.v]) ∧
  (∀ e : QCC, e.enc = [e.frz ++ e.rqt]) ∧
  (∀ e : QRP, e.enc = [e.v]) ∧
  (∀ e : COI, e.enc = [e.bi ++ e.cause]) ∧
  (∀ e : QPM, e.enc = [e.pop ++ e.lpc ++ e.kpa]) ∧
  (∀ e : QPA, e.enc = [e.v]) ∧
  (∀ e : FBP, e.enc = [e.v.extractLsb' 0 8, e.v.extractLsb' 8 8]) ∧
  (∀ e : TSC, e.enc = [e.v.extractLsb' 0 8, e.v.extractLsb' 8 8]) ∧
  (∀ e : NOF, e.enc = [e.v.extractLsb' 0 8, e.v.extractLsb' 8 8]) ∧
  (∀ e : NOS, e.enc = [e.v]) ∧
  (∀ e : LOF, e.enc = [e.v.extractLsb' 0 8, e.v.extractLsb' 8 8, e.v.extractLsb' 16 8]) ∧
  (∀ e : LOS, e.enc = [e.v]) ∧
  (∀ e : FRQ, e.enc = [e.bs ++ e.ui7]) ∧
  (∀ e : SRQ, e.enc = [e.bs ++ e.ui7]) ∧
  (∀ e : SCQ, e.enc = [e.err ++ e.act]) ∧
  (∀ e : LSQ, e.enc = [e.v]) ∧
  (∀ e : CHS, e.enc = [e.v]) ∧
  (∀ e : AFQ, e.enc = [e.err ++ e.ack]) ∧
  (∀ e : SOF, e.enc = [e.fa ++ e.forDir ++ e.lfd ++ e.status])

/-- Every information element's encoder and decoder are inverse (R150). -/
def Obligations.ElementsBijective : Prop :=
  ((∀ e : SIQ, SIQ.dec e.enc = e) ∧ ∀ os : List Byte, os.length = 1 → (SIQ.dec os).enc = os) ∧
  ((∀ e : DIQ, DIQ.dec e.enc = e) ∧ ∀ os : List Byte, os.length = 1 → (DIQ.dec os).enc = os) ∧
  ((∀ e : QDS, QDS.dec e.enc = e) ∧ ∀ os : List Byte, os.length = 1 → (QDS.dec os).enc = os) ∧
  ((∀ e : VTI, VTI.dec e.enc = e) ∧ ∀ os : List Byte, os.length = 1 → (VTI.dec os).enc = os) ∧
  ((∀ e : NVA, NVA.dec e.enc = e) ∧ ∀ os : List Byte, os.length = 2 → (NVA.dec os).enc = os) ∧
  ((∀ e : SVA, SVA.dec e.enc = e) ∧ ∀ os : List Byte, os.length = 2 → (SVA.dec os).enc = os) ∧
  ((∀ e : R32, R32.dec e.enc = e) ∧ ∀ os : List Byte, os.length = 4 → (R32.dec os).enc = os) ∧
  ((∀ e : BSI, BSI.dec e.enc = e) ∧ ∀ os : List Byte, os.length = 4 → (BSI.dec os).enc = os) ∧
  ((∀ e : BCR, BCR.dec e.enc = e) ∧ ∀ os : List Byte, os.length = 5 → (BCR.dec os).enc = os) ∧
  ((∀ e : SEP, SEP.dec e.enc = e) ∧ ∀ os : List Byte, os.length = 1 → (SEP.dec os).enc = os) ∧
  ((∀ e : SPE, SPE.dec e.enc = e) ∧ ∀ os : List Byte, os.length = 1 → (SPE.dec os).enc = os) ∧
  ((∀ e : OCI, OCI.dec e.enc = e) ∧ ∀ os : List Byte, os.length = 1 → (OCI.dec os).enc = os) ∧
  ((∀ e : QDP, QDP.dec e.enc = e) ∧ ∀ os : List Byte, os.length = 1 → (QDP.dec os).enc = os) ∧
  ((∀ e : SCD, SCD.dec e.enc = e) ∧ ∀ os : List Byte, os.length = 4 → (SCD.dec os).enc = os) ∧
  ((∀ e : CP16Time2a, CP16Time2a.dec e.enc = e) ∧ ∀ os : List Byte, os.length = 2 → (CP16Time2a.dec os).enc = os) ∧
  ((∀ e : CP24Time2a, CP24Time2a.dec e.enc = e) ∧ ∀ os : List Byte, os.length = 3 → (CP24Time2a.dec os).enc = os) ∧
  ((∀ e : CP56Time2a, CP56Time2a.dec e.enc = e) ∧ ∀ os : List Byte, os.length = 7 → (CP56Time2a.dec os).enc = os) ∧
  ((∀ e : SCO, SCO.dec e.enc = e) ∧ ∀ os : List Byte, os.length = 1 → (SCO.dec os).enc = os) ∧
  ((∀ e : DCO, DCO.dec e.enc = e) ∧ ∀ os : List Byte, os.length = 1 → (DCO.dec os).enc = os) ∧
  ((∀ e : RCO, RCO.dec e.enc = e) ∧ ∀ os : List Byte, os.length = 1 → (RCO.dec os).enc = os) ∧
  ((∀ e : QOS, QOS.dec e.enc = e) ∧ ∀ os : List Byte, os.length = 1 → (QOS.dec os).enc = os) ∧
  ((∀ e : QOI, QOI.dec e.enc = e) ∧ ∀ os : List Byte, os.length = 1 → (QOI.dec os).enc = os) ∧
  ((∀ e : QCC, QCC.dec e.enc = e) ∧ ∀ os : List Byte, os.length = 1 → (QCC.dec os).enc = os) ∧
  ((∀ e : QRP, QRP.dec e.enc = e) ∧ ∀ os : List Byte, os.length = 1 → (QRP.dec os).enc = os) ∧
  ((∀ e : COI, COI.dec e.enc = e) ∧ ∀ os : List Byte, os.length = 1 → (COI.dec os).enc = os) ∧
  ((∀ e : QPM, QPM.dec e.enc = e) ∧ ∀ os : List Byte, os.length = 1 → (QPM.dec os).enc = os) ∧
  ((∀ e : QPA, QPA.dec e.enc = e) ∧ ∀ os : List Byte, os.length = 1 → (QPA.dec os).enc = os) ∧
  ((∀ e : FBP, FBP.dec e.enc = e) ∧ ∀ os : List Byte, os.length = 2 → (FBP.dec os).enc = os) ∧
  ((∀ e : TSC, TSC.dec e.enc = e) ∧ ∀ os : List Byte, os.length = 2 → (TSC.dec os).enc = os) ∧
  ((∀ e : NOF, NOF.dec e.enc = e) ∧ ∀ os : List Byte, os.length = 2 → (NOF.dec os).enc = os) ∧
  ((∀ e : NOS, NOS.dec e.enc = e) ∧ ∀ os : List Byte, os.length = 1 → (NOS.dec os).enc = os) ∧
  ((∀ e : LOF, LOF.dec e.enc = e) ∧ ∀ os : List Byte, os.length = 3 → (LOF.dec os).enc = os) ∧
  ((∀ e : LOS, LOS.dec e.enc = e) ∧ ∀ os : List Byte, os.length = 1 → (LOS.dec os).enc = os) ∧
  ((∀ e : FRQ, FRQ.dec e.enc = e) ∧ ∀ os : List Byte, os.length = 1 → (FRQ.dec os).enc = os) ∧
  ((∀ e : SRQ, SRQ.dec e.enc = e) ∧ ∀ os : List Byte, os.length = 1 → (SRQ.dec os).enc = os) ∧
  ((∀ e : SCQ, SCQ.dec e.enc = e) ∧ ∀ os : List Byte, os.length = 1 → (SCQ.dec os).enc = os) ∧
  ((∀ e : LSQ, LSQ.dec e.enc = e) ∧ ∀ os : List Byte, os.length = 1 → (LSQ.dec os).enc = os) ∧
  ((∀ e : CHS, CHS.dec e.enc = e) ∧ ∀ os : List Byte, os.length = 1 → (CHS.dec os).enc = os) ∧
  ((∀ e : AFQ, AFQ.dec e.enc = e) ∧ ∀ os : List Byte, os.length = 1 → (AFQ.dec os).enc = os) ∧
  ((∀ e : SOF, SOF.dec e.enc = e) ∧ ∀ os : List Byte, os.length = 1 → (SOF.dec os).enc = os)

/-- Every type's payload encoder and decoder are inverse (R220, R328). -/
def Obligations.BodiesBijective : Prop :=
  (∀ (type : TypeId) (body : Body), body.typeId? = some type →
    (∀ nof nos seg, body = .fSgNa1 nof nos seg → seg.length ≤ 255 →
      type.decBody body.enc = body ∧ body.enc.length = 4 + seg.length) ∧
    (type ≠ .fSgNa1 → type.decBody body.enc = body ∧ type.psize = .fixed (BitVec.ofNat 8 body.enc.length))) ∧
  (∀ (type : TypeId) (size : Byte) (os : List Byte), type.psize = .fixed size → os.length = size.toNat →
    (type.decBody os).typeId? = some type ∧ (type.decBody os).enc = os)

/-- A list of field values makes a body exactly when each fits its field (R321 check 5; log entry 11). -/
def Obligations.FieldValuesPack : Prop :=
  ∀ (type : TypeId) (values : List (BitVec 64)), type ≠ .fSgNa1 →
    ((type.bodyOfValues? values).isSome = true ↔ fitsFields type.fields values = true) ∧
    (∀ body, type.bodyOfValues? values = some body →
      body.typeId? = some type ∧ fromLE body.enc = packFields type.fields values)

/-! ## Round trip -/

/-- Round trip (R328). -/
def Obligations.RoundTrip : Prop :=
  ∀ (c : Config) (s t u : State) (hdr : MacroHeader) (ios : List IOOperand) (o : BitVec 16),
    s.config = some c → c.valid = true → s.MemOk → ios ≠ [] →
    runMacro (macroBuild hdr ios) s = .next t → t.status = 0x00#8 → o.toNat + t.asduLen.toNat ≤ 261 →
    takeAction (.writeBuf .rxbuf o (Mem.read t.abuf 0 t.asduLen.toNat)) t = .next u →
    ∃ v, exec (.asduDecode o (t.asduLen.setWidth 16)) u = .next v ∧ v.status = 0x00#8 ∧
      v.view.valid = true ∧ some v.view.hdr.type = t.builder.type ∧ v.view.hdr.sq = hdr.sq ∧ v.view.hdr.t = hdr.t ∧
      v.view.hdr.pn = hdr.pn ∧ v.view.hdr.cot = hdr.cot.setWidth 6 ∧ v.view.hdr.oa = t.builder.oa ∧
      v.view.hdr.ca = hdr.ca ∧ v.view.hdr.count.toNat = ios.length ∧
      ∀ (i : Nat) (io : IOOperand) (body : Body), ios[i]? = some io → io.body.body? = some body →
        ∃ w, exec (.asduGetElement (BitVec.ofNat 8 i)) v = .next w ∧ w.elem.valid = true ∧
          w.elem.io = { type := io.type, ioa := io.ioa.setWidth 24, body := body }

/-! ## Invariants -/

/-- Every step keeps the buffers in canonical form and inside their sizes (R70, R71; the form is the model's). -/
def Obligations.StepKeepsBuffers : Prop :=
  ∀ (s t : State), s.MemOk → step s = .next t → t.MemOk

/-- Every step keeps the window invariant (R48). -/
def Obligations.StepKeepsWindow : Prop :=
  ∀ (s t : State), s.ConfigOk → (∀ c, s.config = some c → windowOk c s.apci) → step s = .next t →
    t.ConfigOk ∧ ∀ c, t.config = some c → windowOk c t.apci

/-- Every step keeps the invariant of the machine -/
def Obligations.StepKeepsInv : Prop :=
  ∀ (s t : State), s.Inv → step s = .next t → t.Inv

/-- The state after power-on meets the invariant. Its register values are the model's (log entries 4 to 8). -/
def Obligations.ResetInv : Prop :=
  State.reset.Inv

/-- In every state that meets the invariant every well-formed instruction ends in a next state. A reach outside a buffer would
be a stop by the model's choice (log entry 13): this says that there is none. -/
def Obligations.EveryInstructionAnswers : Prop :=
  ∀ (i : Instr) (s : State), s.Inv → i.wf = true → ∃ t, exec i s = .next t

/-- From the invariant a step answers a next state. `InputOk` shuts out the two actions of the host on which the model stops by
its own choice: a malformed presentation (log entry 14) and a write outside a buffer (log entry 23). -/
def Obligations.Progress : Prop :=
  ∀ s : State, s.Inv → s.InputOk → ∃ t, step s = .next t
end

