-- ==== Sys2Proof/Laws/State.lean ====
section
/-! SUPPORT. One lemma for each field and each named update of the state, so that no proof unfolds a record update. -/

namespace Sys2Proof.Machine

/-! ## Writing a status -/

@[simp] theorem State.withStatus_config (s : State) (e : Status) (info : BitVec 16) : (s.withStatus e info).config = s.config := rfl
@[simp] theorem State.withStatus_status (s : State) (e : Status) (info : BitVec 16) : (s.withStatus e info).status = e.code := rfl
@[simp] theorem State.withStatus_statusInfo (s : State) (e : Status) (info : BitVec 16) : (s.withStatus e info).statusInfo = info := rfl
@[simp] theorem State.withStatus_builder (s : State) (e : Status) (info : BitVec 16) : (s.withStatus e info).builder = s.builder := rfl
@[simp] theorem State.withStatus_asduLen (s : State) (e : Status) (info : BitVec 16) : (s.withStatus e info).asduLen = s.asduLen := rfl
@[simp] theorem State.withStatus_view (s : State) (e : Status) (info : BitVec 16) : (s.withStatus e info).view = s.view := rfl
@[simp] theorem State.withStatus_elem (s : State) (e : Status) (info : BitVec 16) : (s.withStatus e info).elem = s.elem := rfl
@[simp] theorem State.withStatus_link (s : State) (e : Status) (info : BitVec 16) : (s.withStatus e info).link = s.link := rfl
@[simp] theorem State.withStatus_txLen (s : State) (e : Status) (info : BitVec 16) : (s.withStatus e info).txLen = s.txLen := rfl
@[simp] theorem State.withStatus_apci (s : State) (e : Status) (info : BitVec 16) : (s.withStatus e info).apci = s.apci := rfl
@[simp] theorem State.withStatus_chk (s : State) (e : Status) (info : BitVec 16) : (s.withStatus e info).chk = s.chk := rfl
@[simp] theorem State.withStatus_rxbuf (s : State) (e : Status) (info : BitVec 16) : (s.withStatus e info).rxbuf = s.rxbuf := rfl
@[simp] theorem State.withStatus_txbuf (s : State) (e : Status) (info : BitVec 16) : (s.withStatus e info).txbuf = s.txbuf := rfl
@[simp] theorem State.withStatus_abuf (s : State) (e : Status) (info : BitVec 16) : (s.withStatus e info).abuf = s.abuf := rfl
@[simp] theorem State.withStatus_input (s : State) (e : Status) (info : BitVec 16) : (s.withStatus e info).input = s.input := rfl

/-! ## Writing RXBUF -/

@[simp] theorem State.setBuf_rxbuf_config (s : State) (m : Mem) : (s.setBuf .rxbuf m).config = s.config := rfl
@[simp] theorem State.setBuf_rxbuf_status (s : State) (m : Mem) : (s.setBuf .rxbuf m).status = s.status := rfl
@[simp] theorem State.setBuf_rxbuf_statusInfo (s : State) (m : Mem) : (s.setBuf .rxbuf m).statusInfo = s.statusInfo := rfl
@[simp] theorem State.setBuf_rxbuf_builder (s : State) (m : Mem) : (s.setBuf .rxbuf m).builder = s.builder := rfl
@[simp] theorem State.setBuf_rxbuf_asduLen (s : State) (m : Mem) : (s.setBuf .rxbuf m).asduLen = s.asduLen := rfl
@[simp] theorem State.setBuf_rxbuf_view (s : State) (m : Mem) : (s.setBuf .rxbuf m).view = s.view := rfl
@[simp] theorem State.setBuf_rxbuf_elem (s : State) (m : Mem) : (s.setBuf .rxbuf m).elem = s.elem := rfl
@[simp] theorem State.setBuf_rxbuf_link (s : State) (m : Mem) : (s.setBuf .rxbuf m).link = s.link := rfl
@[simp] theorem State.setBuf_rxbuf_txLen (s : State) (m : Mem) : (s.setBuf .rxbuf m).txLen = s.txLen := rfl
@[simp] theorem State.setBuf_rxbuf_apci (s : State) (m : Mem) : (s.setBuf .rxbuf m).apci = s.apci := rfl
@[simp] theorem State.setBuf_rxbuf_chk (s : State) (m : Mem) : (s.setBuf .rxbuf m).chk = s.chk := rfl
@[simp] theorem State.setBuf_rxbuf_rxbuf (s : State) (m : Mem) : (s.setBuf .rxbuf m).rxbuf = m := rfl
@[simp] theorem State.setBuf_rxbuf_txbuf (s : State) (m : Mem) : (s.setBuf .rxbuf m).txbuf = s.txbuf := rfl
@[simp] theorem State.setBuf_rxbuf_abuf (s : State) (m : Mem) : (s.setBuf .rxbuf m).abuf = s.abuf := rfl
@[simp] theorem State.setBuf_rxbuf_input (s : State) (m : Mem) : (s.setBuf .rxbuf m).input = s.input := rfl

/-! ## Writing TXBUF -/

@[simp] theorem State.setBuf_txbuf_config (s : State) (m : Mem) : (s.setBuf .txbuf m).config = s.config := rfl
@[simp] theorem State.setBuf_txbuf_status (s : State) (m : Mem) : (s.setBuf .txbuf m).status = s.status := rfl
@[simp] theorem State.setBuf_txbuf_statusInfo (s : State) (m : Mem) : (s.setBuf .txbuf m).statusInfo = s.statusInfo := rfl
@[simp] theorem State.setBuf_txbuf_builder (s : State) (m : Mem) : (s.setBuf .txbuf m).builder = s.builder := rfl
@[simp] theorem State.setBuf_txbuf_asduLen (s : State) (m : Mem) : (s.setBuf .txbuf m).asduLen = s.asduLen := rfl
@[simp] theorem State.setBuf_txbuf_view (s : State) (m : Mem) : (s.setBuf .txbuf m).view = s.view := rfl
@[simp] theorem State.setBuf_txbuf_elem (s : State) (m : Mem) : (s.setBuf .txbuf m).elem = s.elem := rfl
@[simp] theorem State.setBuf_txbuf_link (s : State) (m : Mem) : (s.setBuf .txbuf m).link = s.link := rfl
@[simp] theorem State.setBuf_txbuf_txLen (s : State) (m : Mem) : (s.setBuf .txbuf m).txLen = s.txLen := rfl
@[simp] theorem State.setBuf_txbuf_apci (s : State) (m : Mem) : (s.setBuf .txbuf m).apci = s.apci := rfl
@[simp] theorem State.setBuf_txbuf_chk (s : State) (m : Mem) : (s.setBuf .txbuf m).chk = s.chk := rfl
@[simp] theorem State.setBuf_txbuf_rxbuf (s : State) (m : Mem) : (s.setBuf .txbuf m).rxbuf = s.rxbuf := rfl
@[simp] theorem State.setBuf_txbuf_txbuf (s : State) (m : Mem) : (s.setBuf .txbuf m).txbuf = m := rfl
@[simp] theorem State.setBuf_txbuf_abuf (s : State) (m : Mem) : (s.setBuf .txbuf m).abuf = s.abuf := rfl
@[simp] theorem State.setBuf_txbuf_input (s : State) (m : Mem) : (s.setBuf .txbuf m).input = s.input := rfl

/-! ## Writing ABUF -/

@[simp] theorem State.setBuf_abuf_config (s : State) (m : Mem) : (s.setBuf .abuf m).config = s.config := rfl
@[simp] theorem State.setBuf_abuf_status (s : State) (m : Mem) : (s.setBuf .abuf m).status = s.status := rfl
@[simp] theorem State.setBuf_abuf_statusInfo (s : State) (m : Mem) : (s.setBuf .abuf m).statusInfo = s.statusInfo := rfl
@[simp] theorem State.setBuf_abuf_builder (s : State) (m : Mem) : (s.setBuf .abuf m).builder = s.builder := rfl
@[simp] theorem State.setBuf_abuf_asduLen (s : State) (m : Mem) : (s.setBuf .abuf m).asduLen = s.asduLen := rfl
@[simp] theorem State.setBuf_abuf_view (s : State) (m : Mem) : (s.setBuf .abuf m).view = s.view := rfl
@[simp] theorem State.setBuf_abuf_elem (s : State) (m : Mem) : (s.setBuf .abuf m).elem = s.elem := rfl
@[simp] theorem State.setBuf_abuf_link (s : State) (m : Mem) : (s.setBuf .abuf m).link = s.link := rfl
@[simp] theorem State.setBuf_abuf_txLen (s : State) (m : Mem) : (s.setBuf .abuf m).txLen = s.txLen := rfl
@[simp] theorem State.setBuf_abuf_apci (s : State) (m : Mem) : (s.setBuf .abuf m).apci = s.apci := rfl
@[simp] theorem State.setBuf_abuf_chk (s : State) (m : Mem) : (s.setBuf .abuf m).chk = s.chk := rfl
@[simp] theorem State.setBuf_abuf_rxbuf (s : State) (m : Mem) : (s.setBuf .abuf m).rxbuf = s.rxbuf := rfl
@[simp] theorem State.setBuf_abuf_txbuf (s : State) (m : Mem) : (s.setBuf .abuf m).txbuf = s.txbuf := rfl
@[simp] theorem State.setBuf_abuf_abuf (s : State) (m : Mem) : (s.setBuf .abuf m).abuf = m := rfl
@[simp] theorem State.setBuf_abuf_input (s : State) (m : Mem) : (s.setBuf .abuf m).input = s.input := rfl

/-! ## After a host write to RXBUF -/

@[simp] theorem State.afterHostWrite_rxbuf_config (s : State) : (s.afterHostWrite .rxbuf).config = s.config := rfl
@[simp] theorem State.afterHostWrite_rxbuf_status (s : State) : (s.afterHostWrite .rxbuf).status = s.status := rfl
@[simp] theorem State.afterHostWrite_rxbuf_statusInfo (s : State) : (s.afterHostWrite .rxbuf).statusInfo = s.statusInfo := rfl
@[simp] theorem State.afterHostWrite_rxbuf_builder (s : State) : (s.afterHostWrite .rxbuf).builder = s.builder := rfl
@[simp] theorem State.afterHostWrite_rxbuf_asduLen (s : State) : (s.afterHostWrite .rxbuf).asduLen = s.asduLen := rfl
@[simp] theorem State.afterHostWrite_rxbuf_view (s : State) : (s.afterHostWrite .rxbuf).view = { s.view with valid := false } := rfl
@[simp] theorem State.afterHostWrite_rxbuf_elem (s : State) : (s.afterHostWrite .rxbuf).elem = { s.elem with valid := false } := rfl
@[simp] theorem State.afterHostWrite_rxbuf_link (s : State) : (s.afterHostWrite .rxbuf).link = s.link := rfl
@[simp] theorem State.afterHostWrite_rxbuf_txLen (s : State) : (s.afterHostWrite .rxbuf).txLen = s.txLen := rfl
@[simp] theorem State.afterHostWrite_rxbuf_apci (s : State) : (s.afterHostWrite .rxbuf).apci = s.apci := rfl
@[simp] theorem State.afterHostWrite_rxbuf_chk (s : State) : (s.afterHostWrite .rxbuf).chk = s.chk := rfl
@[simp] theorem State.afterHostWrite_rxbuf_rxbuf (s : State) : (s.afterHostWrite .rxbuf).rxbuf = s.rxbuf := rfl
@[simp] theorem State.afterHostWrite_rxbuf_txbuf (s : State) : (s.afterHostWrite .rxbuf).txbuf = s.txbuf := rfl
@[simp] theorem State.afterHostWrite_rxbuf_abuf (s : State) : (s.afterHostWrite .rxbuf).abuf = s.abuf := rfl
@[simp] theorem State.afterHostWrite_rxbuf_input (s : State) : (s.afterHostWrite .rxbuf).input = s.input := rfl

/-! ## After a host write to ABUF -/

@[simp] theorem State.afterHostWrite_abuf_config (s : State) : (s.afterHostWrite .abuf).config = s.config := rfl
@[simp] theorem State.afterHostWrite_abuf_status (s : State) : (s.afterHostWrite .abuf).status = s.status := rfl
@[simp] theorem State.afterHostWrite_abuf_statusInfo (s : State) : (s.afterHostWrite .abuf).statusInfo = s.statusInfo := rfl
@[simp] theorem State.afterHostWrite_abuf_builder (s : State) : (s.afterHostWrite .abuf).builder = { s.builder with active := false } := rfl
@[simp] theorem State.afterHostWrite_abuf_asduLen (s : State) : (s.afterHostWrite .abuf).asduLen = s.asduLen := rfl
@[simp] theorem State.afterHostWrite_abuf_view (s : State) : (s.afterHostWrite .abuf).view = s.view := rfl
@[simp] theorem State.afterHostWrite_abuf_elem (s : State) : (s.afterHostWrite .abuf).elem = s.elem := rfl
@[simp] theorem State.afterHostWrite_abuf_link (s : State) : (s.afterHostWrite .abuf).link = s.link := rfl
@[simp] theorem State.afterHostWrite_abuf_txLen (s : State) : (s.afterHostWrite .abuf).txLen = s.txLen := rfl
@[simp] theorem State.afterHostWrite_abuf_apci (s : State) : (s.afterHostWrite .abuf).apci = s.apci := rfl
@[simp] theorem State.afterHostWrite_abuf_chk (s : State) : (s.afterHostWrite .abuf).chk = s.chk := rfl
@[simp] theorem State.afterHostWrite_abuf_rxbuf (s : State) : (s.afterHostWrite .abuf).rxbuf = s.rxbuf := rfl
@[simp] theorem State.afterHostWrite_abuf_txbuf (s : State) : (s.afterHostWrite .abuf).txbuf = s.txbuf := rfl
@[simp] theorem State.afterHostWrite_abuf_abuf (s : State) : (s.afterHostWrite .abuf).abuf = s.abuf := rfl
@[simp] theorem State.afterHostWrite_abuf_input (s : State) : (s.afterHostWrite .abuf).input = s.input := rfl

/-! ## After a host write to TXBUF -/

@[simp] theorem State.afterHostWrite_txbuf (s : State) : s.afterHostWrite .txbuf = s := rfl

/-! ## Adding octets to the section sum -/

@[simp] theorem State.addToSection_config (s : State) (os : List Byte) : (s.addToSection os).config = s.config := rfl
@[simp] theorem State.addToSection_status (s : State) (os : List Byte) : (s.addToSection os).status = s.status := rfl
@[simp] theorem State.addToSection_statusInfo (s : State) (os : List Byte) : (s.addToSection os).statusInfo = s.statusInfo := rfl
@[simp] theorem State.addToSection_builder (s : State) (os : List Byte) : (s.addToSection os).builder = s.builder := rfl
@[simp] theorem State.addToSection_asduLen (s : State) (os : List Byte) : (s.addToSection os).asduLen = s.asduLen := rfl
@[simp] theorem State.addToSection_view (s : State) (os : List Byte) : (s.addToSection os).view = s.view := rfl
@[simp] theorem State.addToSection_elem (s : State) (os : List Byte) : (s.addToSection os).elem = s.elem := rfl
@[simp] theorem State.addToSection_link (s : State) (os : List Byte) : (s.addToSection os).link = s.link := rfl
@[simp] theorem State.addToSection_txLen (s : State) (os : List Byte) : (s.addToSection os).txLen = s.txLen := rfl
@[simp] theorem State.addToSection_apci (s : State) (os : List Byte) : (s.addToSection os).apci = s.apci := rfl
@[simp] theorem State.addToSection_chk (s : State) (os : List Byte) : (s.addToSection os).chk = { s.chk with sect := s.chk.sect + sum8 os } := rfl
@[simp] theorem State.addToSection_rxbuf (s : State) (os : List Byte) : (s.addToSection os).rxbuf = s.rxbuf := rfl
@[simp] theorem State.addToSection_txbuf (s : State) (os : List Byte) : (s.addToSection os).txbuf = s.txbuf := rfl
@[simp] theorem State.addToSection_abuf (s : State) (os : List Byte) : (s.addToSection os).abuf = s.abuf := rfl
@[simp] theorem State.addToSection_input (s : State) (os : List Byte) : (s.addToSection os).input = s.input := rfl

/-! ## Closing a section -/

@[simp] theorem State.closeSection_config (s : State) : (s.closeSection).config = s.config := rfl
@[simp] theorem State.closeSection_status (s : State) : (s.closeSection).status = s.status := rfl
@[simp] theorem State.closeSection_statusInfo (s : State) : (s.closeSection).statusInfo = s.statusInfo := rfl
@[simp] theorem State.closeSection_builder (s : State) : (s.closeSection).builder = s.builder := rfl
@[simp] theorem State.closeSection_asduLen (s : State) : (s.closeSection).asduLen = s.asduLen := rfl
@[simp] theorem State.closeSection_view (s : State) : (s.closeSection).view = s.view := rfl
@[simp] theorem State.closeSection_elem (s : State) : (s.closeSection).elem = s.elem := rfl
@[simp] theorem State.closeSection_link (s : State) : (s.closeSection).link = s.link := rfl
@[simp] theorem State.closeSection_txLen (s : State) : (s.closeSection).txLen = s.txLen := rfl
@[simp] theorem State.closeSection_apci (s : State) : (s.closeSection).apci = s.apci := rfl
@[simp] theorem State.closeSection_chk (s : State) : (s.closeSection).chk = { sect := 0#8, file := s.chk.file + s.chk.sect } := rfl
@[simp] theorem State.closeSection_rxbuf (s : State) : (s.closeSection).rxbuf = s.rxbuf := rfl
@[simp] theorem State.closeSection_txbuf (s : State) : (s.closeSection).txbuf = s.txbuf := rfl
@[simp] theorem State.closeSection_abuf (s : State) : (s.closeSection).abuf = s.abuf := rfl
@[simp] theorem State.closeSection_input (s : State) : (s.closeSection).input = s.input := rfl

/-! ## An accepted RESET -/

@[simp] theorem State.resetWith_config (s : State) (c : Config) : (s.resetWith c).config = some c := rfl
@[simp] theorem State.resetWith_status (s : State) (c : Config) : (s.resetWith c).status = 0x00#8 := rfl
@[simp] theorem State.resetWith_statusInfo (s : State) (c : Config) : (s.resetWith c).statusInfo = 0#16 := rfl
@[simp] theorem State.resetWith_builder (s : State) (c : Config) : (s.resetWith c).builder = Builder.reset := rfl
@[simp] theorem State.resetWith_asduLen (s : State) (c : Config) : (s.resetWith c).asduLen = 0#8 := rfl
@[simp] theorem State.resetWith_view (s : State) (c : Config) : (s.resetWith c).view = View.reset := rfl
@[simp] theorem State.resetWith_elem (s : State) (c : Config) : (s.resetWith c).elem = Element.reset := rfl
@[simp] theorem State.resetWith_link (s : State) (c : Config) : (s.resetWith c).link = LinkRx.reset := rfl
@[simp] theorem State.resetWith_txLen (s : State) (c : Config) : (s.resetWith c).txLen = 0#16 := rfl
@[simp] theorem State.resetWith_apci (s : State) (c : Config) : (s.resetWith c).apci = { Apci.reset with win := List.replicate c.k WinEntry.zero } := rfl
@[simp] theorem State.resetWith_chk (s : State) (c : Config) : (s.resetWith c).chk = Chk.reset := rfl
@[simp] theorem State.resetWith_rxbuf (s : State) (c : Config) : (s.resetWith c).rxbuf = s.rxbuf := rfl
@[simp] theorem State.resetWith_txbuf (s : State) (c : Config) : (s.resetWith c).txbuf = s.txbuf := rfl
@[simp] theorem State.resetWith_abuf (s : State) (c : Config) : (s.resetWith c).abuf = s.abuf := rfl
@[simp] theorem State.resetWith_input (s : State) (c : Config) : (s.resetWith c).input = s.input := rfl

/-! ## Buffers -/

@[simp] theorem State.buf_rxbuf (s : State) : s.buf .rxbuf = s.rxbuf := rfl
@[simp] theorem State.buf_txbuf (s : State) : s.buf .txbuf = s.txbuf := rfl
@[simp] theorem State.buf_abuf (s : State) : s.buf .abuf = s.abuf := rfl

/-- The buffers after one of them is replaced. -/
@[simp] theorem State.buf_setBuf (s : State) (b b' : Buf) (m : Mem) :
    (s.setBuf b m).buf b' = if b' = b then m else s.buf b' := by
  cases b <;> cases b' <;> rfl

@[simp] theorem State.buf_withStatus (s : State) (e : Status) (info : BitVec 16) (b : Buf) :
    (s.withStatus e info).buf b = s.buf b := by
  cases b <;> rfl

@[simp] theorem State.buf_afterHostWrite (s : State) (b b' : Buf) : (s.afterHostWrite b).buf b' = s.buf b' := by
  cases b <;> cases b' <;> rfl

end Sys2Proof.Machine
end

