-- ==== Sys2Proof/Laws/Memory.lean ====
section
/-! SUPPORT. The laws of buffer contents: a read after a write, and the canonical form that every operation keeps. -/

namespace Sys2Proof.Machine

/-! ## The canonical form -/

/-- A lower bound may be lowered. -/
theorem Mem.wfFrom_mono {lo lo' : Nat} (h : lo' ≤ lo) : ∀ {m : Mem}, Mem.wfFrom lo m = true → Mem.wfFrom lo' m = true
  | [], _ => rfl
  | (k, v) :: m, hm => by
    simp only [Mem.wfFrom, Bool.and_eq_true, decide_eq_true_eq] at hm ⊢
    exact ⟨⟨by omega, hm.1.2⟩, hm.2⟩

/-- Below the least listed address every octet reads as 0. -/
theorem Mem.get_below : ∀ {m : Mem} {lo a : Nat}, Mem.wfFrom lo m = true → a < lo → Mem.get m a = 0#8
  | [], _, _, _, _ => rfl
  | (k, v) :: m, lo, a, hm, ha => by
    simp only [Mem.wfFrom, Bool.and_eq_true, decide_eq_true_eq] at hm
    have hk : a ≠ k := by omega
    simp only [Mem.get, hk, if_false]
    exact Mem.get_below hm.2 (by omega)

/-- Writing one octet keeps the canonical form. -/
theorem Mem.wfFrom_set : ∀ {m : Mem} {lo a : Nat} (b : Byte), Mem.wfFrom lo m = true → lo ≤ a →
    Mem.wfFrom lo (Mem.set m a b) = true
  | [], lo, a, b, _, ha => by
    by_cases hb : b = 0#8 <;> simp [Mem.set, Mem.wfFrom, hb, ha]
  | (k, v) :: m, lo, a, b, hm, ha => by
    have hm' := hm
    simp only [Mem.wfFrom, Bool.and_eq_true, decide_eq_true_eq] at hm
    obtain ⟨⟨hk, hv⟩, hrest⟩ := hm
    unfold Mem.set
    split
    · by_cases hb : b = 0#8
      · simpa [hb] using hm'
      · have h1 : a + 1 ≤ k := by omega
        simp [hb, Mem.wfFrom, ha, h1, hv, hrest]
    · split
      · next h1 h2 =>
        subst h2
        by_cases hb : b = 0#8
        · simpa [hb] using Mem.wfFrom_mono (by omega) hrest
        · simp [hb, Mem.wfFrom, hk, hrest]
      · next h1 h2 =>
        have h3 : k + 1 ≤ a := by omega
        simp [Mem.wfFrom, hk, hv, Mem.wfFrom_set b hrest h3]

/-- Writing one octet keeps the canonical form. -/
theorem Mem.wf_set {m : Mem} (a : Nat) (b : Byte) (h : Mem.wf m = true) : Mem.wf (Mem.set m a b) = true :=
  Mem.wfFrom_set b h (Nat.zero_le a)

/-- Writing octets keeps the canonical form. -/
theorem Mem.wf_write : ∀ {m : Mem} (a : Nat) (os : List Byte), Mem.wf m = true → Mem.wf (Mem.write m a os) = true
  | _, _, [], h => h
  | _, a, b :: bs, h => Mem.wf_write (a + 1) bs (Mem.wf_set a b h)

/-! ## Reading after writing -/

/-- One octet after one octet was written, whatever the contents. -/
theorem Mem.get_set : ∀ {m : Mem} {lo : Nat} (a a' : Nat) (b : Byte), Mem.wfFrom lo m = true → lo ≤ a →
    Mem.get (Mem.set m a b) a' = if a' = a then b else Mem.get m a'
  | [], lo, a, a', b, _, _ => by
    by_cases hb : b = 0#8 <;> simp [Mem.set, Mem.get, hb]
  | (k, v) :: m, lo, a, a', b, hm, ha => by
    have hm' := hm
    simp only [Mem.wfFrom, Bool.and_eq_true, decide_eq_true_eq] at hm
    obtain ⟨⟨hk, hv⟩, hrest⟩ := hm
    unfold Mem.set
    split
    · next h1 =>
      by_cases hb : b = 0#8
      · simp only [hb, if_true]
        by_cases h2 : a' = a
        · subst h2
          have h3 : a' ≠ k := by omega
          simp only [Mem.get, h3, if_false, if_true]
          exact Mem.get_below hrest (by omega)
        · simp [h2]
      · simp [hb, Mem.get]
    · split
      · next h1 h2 =>
        subst h2
        by_cases hb : b = 0#8
        · simp only [hb, if_true]
          by_cases h3 : a' = a
          · subst h3
            simp only [if_true]
            exact Mem.get_below hrest (by omega)
          · simp [Mem.get, h3]
        · by_cases h3 : a' = a <;> simp [hb, Mem.get, h3]
      · next h1 h2 =>
        have h3 : k + 1 ≤ a := by omega
        have ih := Mem.get_set a a' b hrest h3
        by_cases h4 : a' = k
        · have h5 : a' ≠ a := by omega
          simp [Mem.get, h4]
          intro h6; omega
        · simp [Mem.get, h4, ih]

/-- One octet after octets were written: the one written there, or what it was. -/
theorem Mem.get_write : ∀ {m : Mem} (a : Nat) (os : List Byte) (a' : Nat), Mem.wf m = true →
    Mem.get (Mem.write m a os) a' = if a ≤ a' ∧ a' < a + os.length then octet os (a' - a) else Mem.get m a'
  | m, a, [], a', _ => by
    have h : ¬ (a ≤ a' ∧ a' < a + ([] : List Byte).length) := by simp
    rw [if_neg h]; rfl
  | m, a, b :: bs, a', hm => by
    rw [Mem.write, Mem.get_write (a + 1) bs a' (Mem.wf_set a b hm), Mem.get_set a a' b hm (Nat.zero_le a)]
    by_cases h1 : a' = a
    · subst h1
      have h2 : ¬ (a' + 1 ≤ a') := by omega
      simp [octet, h2]
    · by_cases h2 : a + 1 ≤ a' ∧ a' < a + 1 + bs.length
      · have h3 : a ≤ a' ∧ a' < a + (b :: bs).length := by simp only [List.length_cons]; omega
        have h4 : a' - a = a' - (a + 1) + 1 := by omega
        rw [if_pos h2, if_pos h3, h4]
        simp [octet]
      · have h3 : ¬ (a ≤ a' ∧ a' < a + (b :: bs).length) := by simp only [List.length_cons]; omega
        rw [if_neg h2, if_neg h3, if_neg h1]

/-- Octets that a write does not reach read as before. -/
theorem Mem.get_write_outside {m : Mem} {a a' : Nat} {os : List Byte} (hm : Mem.wf m = true)
    (h : a' < a ∨ a + os.length ≤ a') : Mem.get (Mem.write m a os) a' = Mem.get m a' := by
  rw [Mem.get_write a os a' hm, if_neg (by omega)]

@[simp] theorem Mem.length_read (m : Mem) : ∀ a n, (Mem.read m a n).length = n
  | _, 0 => rfl
  | a, n + 1 => by simp [Mem.read, Mem.length_read m (a + 1) n]

/-- Octet by octet, what a read gives. -/
theorem Mem.octet_read (m : Mem) : ∀ (a n i : Nat), i < n → octet (Mem.read m a n) i = Mem.get m (a + i)
  | _, 0, _, h => absurd h (Nat.not_lt_zero _)
  | a, n + 1, 0, _ => by simp [Mem.read, octet]
  | a, n + 1, i + 1, h => by
    have ih := Mem.octet_read m (a + 1) n i (by omega)
    simp only [Mem.read, octet, List.getD_cons_succ] at ih ⊢
    rw [ih]; congr 1; omega

/-- Reading back what was written. -/
theorem Mem.read_write {m : Mem} (a : Nat) (os : List Byte) (hm : Mem.wf m = true) :
    Mem.read (Mem.write m a os) a os.length = os := by
  apply List.ext_getElem (by simp)
  intro i h1 h2
  have h := Mem.octet_read (Mem.write m a os) a os.length i h2
  rw [Mem.get_write a os (a + i) hm, if_pos (by omega)] at h
  simpa [octet, h1, h2] using h

/-! ## Bounds -/

/-- Writing one octet of a buffer lists none outside it. -/
theorem Mem.inBounds_set {size : Nat} : ∀ {m : Mem} {a : Nat} (b : Byte), Mem.inBounds size m = true → a < size →
    Mem.inBounds size (Mem.set m a b) = true
  | [], a, b, _, ha => by
    by_cases hb : b = 0#8 <;> simp [Mem.set, Mem.inBounds, hb, ha]
  | (k, v) :: m, a, b, hm, ha => by
    have hm' := hm
    simp only [Mem.inBounds, List.all_cons, Bool.and_eq_true] at hm
    unfold Mem.set
    split
    · by_cases hb : b = 0#8
      · simpa [hb] using hm'
      · simpa [hb, Mem.inBounds, ha] using hm
    · split
      · by_cases hb : b = 0#8
        · rw [if_pos hb]; exact hm.2
        · simpa [hb, Mem.inBounds, ha] using hm.2
      · have ih := Mem.inBounds_set (size := size) b (m := m) hm.2 ha
        simp only [Mem.inBounds, List.all_cons, Bool.and_eq_true] at ih ⊢
        exact ⟨hm.1, ih⟩

/-- Writing octets of a buffer lists none outside it. -/
theorem Mem.inBounds_write {size : Nat} : ∀ {m : Mem} (a : Nat) (os : List Byte), Mem.inBounds size m = true →
    a + os.length ≤ size → Mem.inBounds size (Mem.write m a os) = true
  | _, _, [], h, _ => h
  | _, a, b :: bs, h, ha => by
    simp only [List.length_cons] at ha
    exact Mem.inBounds_write (a + 1) bs (Mem.inBounds_set b h (by omega)) (by omega)

/-! ## The state after reset -/

/-- Every buffer of the state after reset is in canonical form. -/
theorem reset_memOk : State.reset.MemOk := by
  intro b; cases b <;> exact ⟨rfl, rfl⟩

end Sys2Proof.Machine
end

