-- ==== Sys2Proof/Laws/Ops.lean ====
section
/-! SUPPORT. For each shared operation one lemma that says everything it can do. Proofs cite these instead of unfolding
the operation. -/

namespace Sys2Proof.Machine

/-! ## Ending a command -/

@[simp] theorem State.finish_eq (s : State) : s.finish = .next (s.withStatus .ok 0#16) := rfl

/-- What raising a status does (60_exceptions.md R506): the two status registers, and A_STATE for a fatal one. -/
theorem State.raise_eq (s : State) (e : Status) (info : BitVec 16) :
    s.raise e info =
      .next ((if e.fatal = true then { s with apci.state := .faulted } else s).withStatus e info) := by
  unfold State.raise; split <;> rfl

/-- A status that is not fatal changes nothing but the status registers. -/
theorem State.raise_nonfatal {e : Status} (h : e.fatal = false) (s : State) (info : BitVec 16) :
    s.raise e info = .next (s.withStatus e info) := by
  simp [State.raise, h]

/-! ## Checks -/

theorem State.check_pos {s : State} {p : Prop} [Decidable p] {e : Status} {info : BitVec 16} {k : Out} (h : p) :
    s.check p e info k = k := by
  simp [State.check, h]

theorem State.check_neg {s : State} {p : Prop} [Decidable p] {e : Status} {info : BitVec 16} {k : Out} (h : ¬ p) :
    s.check p e info k = s.raise e info := by
  simp [State.check, h]

/-- A check that answers has passed, and what follows it answered; or it failed, and its status was raised. -/
theorem State.check_next {s t : State} {p : Prop} [Decidable p] {e : Status} {info : BitVec 16} {k : Out}
    (h : s.check p e info k = .next t) : (p ∧ k = .next t) ∨ (¬ p ∧ s.raise e info = .next t) := by
  by_cases hp : p
  · exact .inl ⟨hp, by rwa [State.check_pos hp] at h⟩
  · exact .inr ⟨hp, by rwa [State.check_neg hp] at h⟩

theorem State.configured_some {s : State} {c : Config} {k : Config → Out} (h : s.config = some c) :
    s.configured k = k c := by
  simp [State.configured, h]

theorem State.configured_none {s : State} {k : Config → Out} (h : s.config = none) :
    s.configured k = .next (s.withStatus .notConfigured 0#16) := by
  simp [State.configured, h, State.raise, Status.fatal]

/-- A command that answers is refused without a configuration, or has one and goes on. -/
theorem State.configured_next {s t : State} {k : Config → Out} (h : s.configured k = .next t) :
    (s.config = none ∧ t = s.withStatus .notConfigured 0#16) ∨ (∃ c, s.config = some c ∧ k c = .next t) := by
  cases hc : s.config with
  | none =>
    rw [State.configured_none hc] at h
    injection h with h; exact .inl ⟨rfl, h.symm⟩
  | some c => exact .inr ⟨c, rfl, by rwa [State.configured_some hc] at h⟩

/-! ## Buffers -/

theorem State.load_inside {s : State} {b : Buf} {a n : Nat} {k : List Byte → Out} (h : a + n ≤ b.size) :
    s.load b a n k = k (Mem.read (s.buf b) a n) := by
  simp [State.load, h]

/-- A read that answers lies in the buffer. -/
theorem State.load_next {s t : State} {b : Buf} {a n : Nat} {k : List Byte → Out} (h : s.load b a n k = .next t) :
    a + n ≤ b.size ∧ k (Mem.read (s.buf b) a n) = .next t := by
  unfold State.load at h
  split at h
  · next hs => exact ⟨hs, h⟩
  · cases h

theorem State.store_inside {s : State} {b : Buf} {a : Nat} {os : List Byte} {k : State → Out}
    (h : a + os.length ≤ b.size) : s.store b a os k = k (s.setBuf b (Mem.write (s.buf b) a os)) := by
  simp [State.store, h]

/-- A write that answers lies in the buffer. -/
theorem State.store_next {s t : State} {b : Buf} {a : Nat} {os : List Byte} {k : State → Out}
    (h : s.store b a os k = .next t) :
    a + os.length ≤ b.size ∧ k (s.setBuf b (Mem.write (s.buf b) a os)) = .next t := by
  unfold State.store at h
  split at h
  · next hs => exact ⟨hs, h⟩
  · cases h

/-- The state after a host write of octets. -/
def State.written (s : State) (b : Buf) (a : Nat) (os : List Byte) : State :=
  (s.setBuf b (Mem.write (s.buf b) a os)).afterHostWrite b

theorem State.hostWrite_inside {s : State} {b : Buf} {a : Nat} {os : List Byte} {k : State → Out} (hne : os ≠ [])
    (h : a + os.length ≤ b.size) : s.hostWrite b a os k = k (s.written b a os) := by
  cases os with
  | nil => exact absurd rfl hne
  | cons o os => simp only [State.hostWrite, State.store_inside h, State.written]

/-- A host write that answers wrote nothing, or wrote inside the buffer. -/
theorem State.hostWrite_next {s t : State} {b : Buf} {a : Nat} {os : List Byte} {k : State → Out}
    (h : s.hostWrite b a os k = .next t) :
    (os = [] ∧ k s = .next t) ∨ (os ≠ [] ∧ a + os.length ≤ b.size ∧ k (s.written b a os) = .next t) := by
  cases os with
  | nil => exact .inl ⟨rfl, h⟩
  | cons o os =>
    have h' : s.store b a (o :: os) (fun u => k (u.afterHostWrite b)) = .next t := h
    obtain ⟨hs, hk⟩ := State.store_next h'
    exact .inr ⟨List.cons_ne_nil o os, hs, hk⟩

/-- The state after a frame was sent. -/
def State.transmitted (s : State) (frame : List Byte) : State :=
  { s.setBuf .txbuf (Mem.write s.txbuf 0 frame) with txLen := BitVec.ofNat 16 frame.length }

theorem State.send_inside {s : State} {frame : List Byte} {k : State → Out} (h : frame.length ≤ Buf.txbuf.size) :
    s.send frame k = k (s.transmitted frame) := by
  unfold State.send
  rw [State.store_inside (by omega)]
  rfl

/-- A frame that is sent fits TXBUF. -/
theorem State.send_next {s t : State} {frame : List Byte} {k : State → Out} (h : s.send frame k = .next t) :
    frame.length ≤ Buf.txbuf.size ∧ k (s.transmitted frame) = .next t := by
  obtain ⟨hs, hk⟩ := State.store_next h
  exact ⟨by omega, hk⟩

/-! ## Host actions -/

/-- What a step does: it idles with no action left, and otherwise takes the next one. -/
theorem step_nil {s : State} (h : s.input = []) : step s = .next s := by
  simp [step, h]

theorem step_cons {s : State} {action : HostAction} {rest : List HostAction} (h : s.input = action :: rest) :
    step s = takeAction action { s with input := rest } := by
  simp [step, h]

/-- A step that answers idles, or took the next action. -/
theorem step_next {s t : State} (h : step s = .next t) :
    (s.input = [] ∧ t = s) ∨
      (∃ action rest, s.input = action :: rest ∧ takeAction action { s with input := rest } = .next t) := by
  cases hi : s.input with
  | nil => rw [step_nil hi] at h; injection h with h; exact .inl ⟨rfl, h.symm⟩
  | cons action rest => exact .inr ⟨action, rest, rfl, by rwa [step_cons hi] at h⟩

/-- An action of the host that answers: a decoded instruction ran, an unassigned opcode was reported, octets were
written, ASDU_LEN was written, or nothing happened. -/
theorem takeAction_next {s t : State} {action : HostAction} (h : takeAction action s = .next t) :
    (∃ sp os instr rest, action = .present sp os ∧ decode sp os = .ok (instr, rest) ∧ exec instr s = .next t) ∨
    (∃ os first, action = .present .command os ∧ decode .command os = .error (.unassigned first) ∧
      t = s.withStatus .unknownCommand (first.setWidth 16)) ∨
    (∃ b addr os, action = .writeBuf b addr os ∧ os = [] ∧ t = s) ∨
    (∃ b addr os, action = .writeBuf b addr os ∧ os ≠ [] ∧ addr.toNat + os.length ≤ b.size ∧
      t = s.written b addr.toNat os) ∨
    (∃ v, action = .writeAsduLen v ∧ t = { s with asduLen := v }) ∨
    (∃ r v, action = .writeReg r v ∧ t = s) := by
  cases action with
  | present sp os =>
    simp only [takeAction, present] at h
    split at h
    · next instr rest hd => exact .inl ⟨sp, os, instr, rest, rfl, hd, h⟩
    · next first hd =>
      split at h
      · next hsp =>
        subst hsp
        rw [unknownCommand, State.raise_nonfatal rfl] at h
        injection h with h
        exact .inr (.inl ⟨os, first, rfl, hd, h.symm⟩)
      · cases h
    · cases h
    · cases h
  | writeBuf b addr os =>
    rcases State.hostWrite_next h with ⟨he, hk⟩ | ⟨hne, hs, hk⟩
    · injection hk with hk
      exact .inr (.inr (.inl ⟨b, addr, os, rfl, he, hk.symm⟩))
    · injection hk with hk
      exact .inr (.inr (.inr (.inl ⟨b, addr, os, rfl, hne, hs, hk.symm⟩)))
  | writeAsduLen v =>
    injection h with h
    exact .inr (.inr (.inr (.inr (.inl ⟨v, rfl, h.symm⟩))))
  | writeReg r v =>
    injection h with h
    exact .inr (.inr (.inr (.inr (.inr ⟨r, v, rfl, h.symm⟩))))

end Sys2Proof.Machine
end

