-- ==== Sys2Proof/Laws/Delivery.lean ====
section
/-! SUPPORT. The octets that a write leaves, in the terms of the claims: `Wrote` and `Delivered`. -/

namespace Sys2Proof.Machine

/-- Writing octets changes them and no others, whatever the registers become. -/
theorem wrote_of_buf {s t : State} {b : Buf} {a : Nat} {os : List Byte} (hs : s.MemOk)
    (hb : t.buf b = Mem.write (s.buf b) a os) (ho : ∀ b', b' ≠ b → t.buf b' = s.buf b') : Wrote s t b a os := by
  refine ⟨?_, fun x hx => ?_, ho⟩
  · rw [hb, Mem.read_write a os (hs b).1]
  · rw [State.octetAt, State.octetAt, hb]
    exact Mem.get_write_outside (hs b).1 hx

/-- Replacing one buffer leaves the others. -/
theorem State.buf_setBuf_ne (s : State) {b b' : Buf} (h : b' ≠ b) (m : Mem) : (s.setBuf b m).buf b' = s.buf b' := by
  cases b <;> cases b' <;> first | rfl | exact absurd rfl h

/-- A write inside one buffer, as `Wrote` says it. -/
theorem wrote_setBuf {s : State} (b : Buf) (a : Nat) (os : List Byte) (hs : s.MemOk) :
    Wrote s (s.setBuf b (Mem.write (s.buf b) a os)) b a os := by
  refine wrote_of_buf hs ?_ fun b' h => State.buf_setBuf_ne s h _
  cases b <;> rfl

/-- The state that a command finds when the host has put a frame at RXBUF[0..]. -/
theorem delivered_written {s : State} (frame : List Byte) (hs : s.MemOk) :
    Delivered s (s.written .rxbuf 0 frame) frame := by
  refine ⟨wrote_of_buf hs rfl fun b' h => ?_, rfl⟩
  cases b' <;> first | rfl | exact absurd rfl h

/-- A frame that a row delivers fits RXBUF and is not empty: what follows runs on the state with the frame. -/
theorem State.deliver_eq {s : State} {frame : List Byte} {k : State → Out} (hne : frame ≠ [])
    (h : frame.length ≤ Buf.rxbuf.size) : s.deliver frame k = k (s.written .rxbuf 0 frame) :=
  State.hostWrite_inside hne (by omega)

/-- The octets of a delivered frame are what RXBUF then reads as. -/
theorem Delivered.read {s u : State} {frame : List Byte} (h : Delivered s u frame) :
    Mem.read u.rxbuf 0 frame.length = frame := h.1.1

end Sys2Proof.Machine
end

