-- ==== Sys2Proof/Laws/PerInstr.lean ====
section
/-! SUPPORT. Statements for all instructions, one lemma per constructor. -/

namespace Sys2Proof.Laws

/-- Mask and match of an instruction's row in spec/opcode_table.json. -/
def rowBits : Instr → Byte × Byte
  | .nop => (0xFF#8, 0x00#8)
  | .reset _ => (0xFF#8, 0x01#8)
  | .asduBegin _ _ _ _ _ _ => (0xFF#8, 0x10#8)
  | .asduAddIo _ => (0xFF#8, 0x11#8)
  | .asduSetRaw _ _ _ => (0xFF#8, 0x12#8)
  | .asduEncode => (0xFF#8, 0x13#8)
  | .asduDecode _ _ => (0xFF#8, 0x14#8)
  | .asduGetElement _ => (0xFF#8, 0x15#8)
  | .asduRewriteCot _ _ => (0xFF#8, 0x16#8)
  | .ft12EncFixed _ _ => (0xFF#8, 0x20#8)
  | .ft12EncVar _ _ => (0xFF#8, 0x21#8)
  | .ft12EncSingle => (0xFF#8, 0x22#8)
  | .ft12Decode _ => (0xFF#8, 0x23#8)
  | .apciReceive _ => (0xFF#8, 0x30#8)
  | .apciSendI _ => (0xFF#8, 0x31#8)
  | .apciSendS => (0xFF#8, 0x32#8)
  | .apciSendU _ => (0xFF#8, 0x33#8)
  | .apciReset => (0xFF#8, 0x34#8)
  | .chkResetFile => (0xFF#8, 0x40#8)
  | .chkBeginSection => (0xFF#8, 0x41#8)
  | .chkAdd _ _ _ => (0xFF#8, 0x42#8)
  | .chkAddElement => (0xFF#8, 0x43#8)
  | .chkCheckSection _ => (0xFF#8, 0x44#8)
  | .chkCloseSection => (0xFF#8, 0x45#8)
  | .chkCheckFile _ => (0xFF#8, 0x46#8)
  | .mSpNa1 _ _ => (0xFF#8, 0x01#8)
  | .mSpTa1 _ _ _ => (0xFF#8, 0x02#8)
  | .mDpNa1 _ _ => (0xFF#8, 0x03#8)
  | .mDpTa1 _ _ _ => (0xFF#8, 0x04#8)
  | .mStNa1 _ _ _ => (0xFF#8, 0x05#8)
  | .mStTa1 _ _ _ _ => (0xFF#8, 0x06#8)
  | .mBoNa1 _ _ _ => (0xFF#8, 0x07#8)
  | .mBoTa1 _ _ _ _ => (0xFF#8, 0x08#8)
  | .mMeNa1 _ _ _ => (0xFF#8, 0x09#8)
  | .mMeTa1 _ _ _ _ => (0xFF#8, 0x0A#8)
  | .mMeNb1 _ _ _ => (0xFF#8, 0x0B#8)
  | .mMeTb1 _ _ _ _ => (0xFF#8, 0x0C#8)
  | .mMeNc1 _ _ _ => (0xFF#8, 0x0D#8)
  | .mMeTc1 _ _ _ _ => (0xFF#8, 0x0E#8)
  | .mItNa1 _ _ => (0xFF#8, 0x0F#8)
  | .mItTa1 _ _ _ => (0xFF#8, 0x10#8)
  | .mEpTa1 _ _ _ _ => (0xFF#8, 0x11#8)
  | .mEpTb1 _ _ _ _ _ => (0xFF#8, 0x12#8)
  | .mEpTc1 _ _ _ _ _ => (0xFF#8, 0x13#8)
  | .mPsNa1 _ _ _ => (0xFF#8, 0x14#8)
  | .mMeNd1 _ _ => (0xFF#8, 0x15#8)
  | .mSpTb1 _ _ _ => (0xFF#8, 0x1E#8)
  | .mDpTb1 _ _ _ => (0xFF#8, 0x1F#8)
  | .mStTb1 _ _ _ _ => (0xFF#8, 0x20#8)
  | .mBoTb1 _ _ _ _ => (0xFF#8, 0x21#8)
  | .mMeTd1 _ _ _ _ => (0xFF#8, 0x22#8)
  | .mMeTe1 _ _ _ _ => (0xFF#8, 0x23#8)
  | .mMeTf1 _ _ _ _ => (0xFF#8, 0x24#8)
  | .mItTb1 _ _ _ => (0xFF#8, 0x25#8)
  | .mEpTd1 _ _ _ _ => (0xFF#8, 0x26#8)
  | .mEpTe1 _ _ _ _ _ => (0xFF#8, 0x27#8)
  | .mEpTf1 _ _ _ _ _ => (0xFF#8, 0x28#8)
  | .cScNa1 _ _ => (0xFF#8, 0x2D#8)
  | .cDcNa1 _ _ => (0xFF#8, 0x2E#8)
  | .cRcNa1 _ _ => (0xFF#8, 0x2F#8)
  | .cSeNa1 _ _ _ => (0xFF#8, 0x30#8)
  | .cSeNb1 _ _ _ => (0xFF#8, 0x31#8)
  | .cSeNc1 _ _ _ => (0xFF#8, 0x32#8)
  | .cBoNa1 _ _ => (0xFF#8, 0x33#8)
  | .cScTa1 _ _ _ => (0xFF#8, 0x3A#8)
  | .cDcTa1 _ _ _ => (0xFF#8, 0x3B#8)
  | .cRcTa1 _ _ _ => (0xFF#8, 0x3C#8)
  | .cSeTa1 _ _ _ _ => (0xFF#8, 0x3D#8)
  | .cSeTb1 _ _ _ _ => (0xFF#8, 0x3E#8)
  | .cSeTc1 _ _ _ _ => (0xFF#8, 0x3F#8)
  | .cBoTa1 _ _ _ => (0xFF#8, 0x40#8)
  | .mEiNa1 _ _ => (0xFF#8, 0x46#8)
  | .cIcNa1 _ _ => (0xFF#8, 0x64#8)
  | .cCiNa1 _ _ => (0xFF#8, 0x65#8)
  | .cRdNa1 _ => (0xFF#8, 0x66#8)
  | .cCsNa1 _ _ => (0xFF#8, 0x67#8)
  | .cTsNa1 _ _ => (0xFF#8, 0x68#8)
  | .cRpNa1 _ _ => (0xFF#8, 0x69#8)
  | .cCdNa1 _ _ => (0xFF#8, 0x6A#8)
  | .cTsTa1 _ _ _ => (0xFF#8, 0x6B#8)
  | .pMeNa1 _ _ _ => (0xFF#8, 0x6E#8)
  | .pMeNb1 _ _ _ => (0xFF#8, 0x6F#8)
  | .pMeNc1 _ _ _ => (0xFF#8, 0x70#8)
  | .pAcNa1 _ _ => (0xFF#8, 0x71#8)
  | .fFrNa1 _ _ _ _ => (0xFF#8, 0x78#8)
  | .fSrNa1 _ _ _ _ _ => (0xFF#8, 0x79#8)
  | .fScNa1 _ _ _ _ => (0xFF#8, 0x7A#8)
  | .fLsNa1 _ _ _ _ _ => (0xFF#8, 0x7B#8)
  | .fAfNa1 _ _ _ _ => (0xFF#8, 0x7C#8)
  | .fSgNa1 _ _ _ _ => (0xFF#8, 0x7D#8)
  | .fDrTa1 _ _ _ _ _ => (0xFF#8, 0x7E#8)
  | .fScNb1 _ _ _ _ => (0xFF#8, 0x7F#8)
  | .iFrame _ _ _ _ _ => (0x01#8, 0x00#8)
  | .sFrame _ _ _ _ => (0xFF#8, 0x01#8)
  | .uStartdtAct _ _ _ _ => (0xFF#8, 0x07#8)
  | .uStartdtCon _ _ _ _ => (0xFF#8, 0x0B#8)
  | .uStopdtAct _ _ _ _ => (0xFF#8, 0x13#8)
  | .uStopdtCon _ _ _ _ => (0xFF#8, 0x23#8)
  | .uTestfrAct _ _ _ _ => (0xFF#8, 0x43#8)
  | .uTestfrCon _ _ _ _ => (0xFF#8, 0x83#8)
  | .ft12Fixed _ => (0xFF#8, 0x10#8)
  | .ft12Variable _ => (0xFF#8, 0x68#8)
  | .ft12Single _ => (0xFF#8, 0xE5#8)
  | .unbPriResetRemoteLink _ _ _ _ => (0x4F#8, 0x40#8)
  | .unbPriResetUserProcess _ _ _ _ => (0x4F#8, 0x41#8)
  | .unbPriUserDataConfirm _ _ _ _ _ => (0x4F#8, 0x43#8)
  | .unbPriUserDataNoReply _ _ _ _ _ => (0x4F#8, 0x44#8)
  | .unbPriRequestAccessDemand _ _ _ _ => (0x4F#8, 0x48#8)
  | .unbPriRequestLinkStatus _ _ _ _ => (0x4F#8, 0x49#8)
  | .unbPriRequestClass1 _ _ _ _ => (0x4F#8, 0x4A#8)
  | .unbPriRequestClass2 _ _ _ _ => (0x4F#8, 0x4B#8)
  | .balPriResetRemoteLink _ _ _ _ => (0x4F#8, 0x40#8)
  | .balPriResetUserProcess _ _ _ _ => (0x4F#8, 0x41#8)
  | .balPriTestLink _ _ _ _ => (0x4F#8, 0x42#8)
  | .balPriUserDataConfirm _ _ _ _ _ => (0x4F#8, 0x43#8)
  | .balPriUserDataNoReply _ _ _ _ _ => (0x4F#8, 0x44#8)
  | .balPriRequestLinkStatus _ _ _ _ => (0x4F#8, 0x49#8)
  | .unbSecAck _ _ _ _ => (0x4F#8, 0x00#8)
  | .unbSecNackBusy _ _ _ _ => (0x4F#8, 0x01#8)
  | .unbSecUserData _ _ _ _ _ => (0x4F#8, 0x08#8)
  | .unbSecNackNoData _ _ _ _ => (0x4F#8, 0x09#8)
  | .unbSecLinkStatus _ _ _ _ => (0x4F#8, 0x0B#8)
  | .unbSecLinkNotFunctioning _ _ _ _ => (0x4F#8, 0x0E#8)
  | .unbSecLinkNotImplemented _ _ _ _ => (0x4F#8, 0x0F#8)
  | .balSecAck _ _ _ _ => (0x4F#8, 0x00#8)
  | .balSecNackBusy _ _ _ _ => (0x4F#8, 0x01#8)
  | .balSecLinkStatus _ _ _ _ => (0x4F#8, 0x0B#8)
  | .balSecLinkNotFunctioning _ _ _ _ => (0x4F#8, 0x0E#8)
  | .balSecLinkNotImplemented _ _ _ _ => (0x4F#8, 0x0F#8)

/-- The octet of a control field from its bits meets a row's mask and match whatever the free bits are. -/
theorem ctlOctet_row (b7 prm b5 b4 : BitVec 1) (fc : BitVec 4) :
    Machine.ctlOctet b7 prm b5 b4 fc &&& 0x4F#8 = Machine.ctlOctet 0#1 prm 0#1 0#1 fc := by
  revert b7 prm b5 b4 fc
  decide

/-- The first octet of an encoded instruction meets the mask and match of the instruction's row. -/
def FirstOctet.Statement (i : Instr) : Prop :=
  ∃ first rest, encode i = first :: rest ∧ first &&& (rowBits i).1 = (rowBits i).2

namespace FirstOctet

theorem of_row {i : Instr} {first mask pattern : Byte} {rest : List Byte} (he : encode i = first :: rest)
    (hr : rowBits i = (mask, pattern)) (hm : first &&& mask = pattern) : Statement i :=
  ⟨first, rest, he, by rw [hr]; exact hm⟩

theorem nop : Statement .nop := of_row rfl rfl rfl
theorem reset (cfg : ConfigOperand) : Statement (.reset cfg) := of_row rfl rfl rfl
theorem asduBegin (sq : Bool) (t : Bool) (pn : Bool) (cot : Byte) (oa : Byte) (ca : BitVec 16) :
    Statement (.asduBegin sq t pn cot oa ca) := of_row rfl rfl rfl
theorem asduAddIo (io : IOOperand) : Statement (.asduAddIo io) := of_row rfl rfl rfl
theorem asduSetRaw (type : Byte) (count : Byte) (data : List Byte) :
    Statement (.asduSetRaw type count data) := of_row rfl rfl rfl
theorem asduEncode : Statement .asduEncode := of_row rfl rfl rfl
theorem asduDecode (off : BitVec 16) (len : BitVec 16) : Statement (.asduDecode off len) := of_row rfl rfl rfl
theorem asduGetElement (idx : Byte) : Statement (.asduGetElement idx) := of_row rfl rfl rfl
theorem asduRewriteCot (cot : Byte) (pn : Bool) : Statement (.asduRewriteCot cot pn) := of_row rfl rfl rfl
theorem ft12EncFixed (c : Byte) (a : BitVec 16) : Statement (.ft12EncFixed c a) := of_row rfl rfl rfl
theorem ft12EncVar (c : Byte) (a : BitVec 16) : Statement (.ft12EncVar c a) := of_row rfl rfl rfl
theorem ft12EncSingle : Statement .ft12EncSingle := of_row rfl rfl rfl
theorem ft12Decode (len : BitVec 16) : Statement (.ft12Decode len) := of_row rfl rfl rfl
theorem apciReceive (len : BitVec 16) : Statement (.apciReceive len) := of_row rfl rfl rfl
theorem apciSendI (tag : Tag) : Statement (.apciSendI tag) := of_row rfl rfl rfl
theorem apciSendS : Statement .apciSendS := of_row rfl rfl rfl
theorem apciSendU (fn : Ufn) : Statement (.apciSendU fn) := of_row rfl rfl rfl
theorem apciReset : Statement .apciReset := of_row rfl rfl rfl
theorem chkResetFile : Statement .chkResetFile := of_row rfl rfl rfl
theorem chkBeginSection : Statement .chkBeginSection := of_row rfl rfl rfl
theorem chkAdd (buf : Buf) (off : BitVec 16) (len : BitVec 16) : Statement (.chkAdd buf off len) := of_row rfl rfl rfl
theorem chkAddElement : Statement .chkAddElement := of_row rfl rfl rfl
theorem chkCheckSection (chs : Byte) : Statement (.chkCheckSection chs) := of_row rfl rfl rfl
theorem chkCloseSection : Statement .chkCloseSection := of_row rfl rfl rfl
theorem chkCheckFile (chs : Byte) : Statement (.chkCheckFile chs) := of_row rfl rfl rfl
theorem mSpNa1 (ioa : Ioa) (siq : SIQ) : Statement (.mSpNa1 ioa siq) := of_row rfl rfl rfl
theorem mSpTa1 (ioa : Ioa) (siq : SIQ) (time : CP24Time2a) : Statement (.mSpTa1 ioa siq time) := of_row rfl rfl rfl
theorem mDpNa1 (ioa : Ioa) (diq : DIQ) : Statement (.mDpNa1 ioa diq) := of_row rfl rfl rfl
theorem mDpTa1 (ioa : Ioa) (diq : DIQ) (time : CP24Time2a) : Statement (.mDpTa1 ioa diq time) := of_row rfl rfl rfl
theorem mStNa1 (ioa : Ioa) (vti : VTI) (qds : QDS) : Statement (.mStNa1 ioa vti qds) := of_row rfl rfl rfl
theorem mStTa1 (ioa : Ioa) (vti : VTI) (qds : QDS) (time : CP24Time2a) :
    Statement (.mStTa1 ioa vti qds time) := of_row rfl rfl rfl
theorem mBoNa1 (ioa : Ioa) (bsi : BSI) (qds : QDS) : Statement (.mBoNa1 ioa bsi qds) := of_row rfl rfl rfl
theorem mBoTa1 (ioa : Ioa) (bsi : BSI) (qds : QDS) (time : CP24Time2a) :
    Statement (.mBoTa1 ioa bsi qds time) := of_row rfl rfl rfl
theorem mMeNa1 (ioa : Ioa) (nva : NVA) (qds : QDS) : Statement (.mMeNa1 ioa nva qds) := of_row rfl rfl rfl
theorem mMeTa1 (ioa : Ioa) (nva : NVA) (qds : QDS) (time : CP24Time2a) :
    Statement (.mMeTa1 ioa nva qds time) := of_row rfl rfl rfl
theorem mMeNb1 (ioa : Ioa) (sva : SVA) (qds : QDS) : Statement (.mMeNb1 ioa sva qds) := of_row rfl rfl rfl
theorem mMeTb1 (ioa : Ioa) (sva : SVA) (qds : QDS) (time : CP24Time2a) :
    Statement (.mMeTb1 ioa sva qds time) := of_row rfl rfl rfl
theorem mMeNc1 (ioa : Ioa) (r32 : R32) (qds : QDS) : Statement (.mMeNc1 ioa r32 qds) := of_row rfl rfl rfl
theorem mMeTc1 (ioa : Ioa) (r32 : R32) (qds : QDS) (time : CP24Time2a) :
    Statement (.mMeTc1 ioa r32 qds time) := of_row rfl rfl rfl
theorem mItNa1 (ioa : Ioa) (bcr : BCR) : Statement (.mItNa1 ioa bcr) := of_row rfl rfl rfl
theorem mItTa1 (ioa : Ioa) (bcr : BCR) (time : CP24Time2a) : Statement (.mItTa1 ioa bcr time) := of_row rfl rfl rfl
theorem mEpTa1 (ioa : Ioa) (sep : SEP) (elapsed : CP16Time2a) (time : CP24Time2a) :
    Statement (.mEpTa1 ioa sep elapsed time) := of_row rfl rfl rfl
theorem mEpTb1 (ioa : Ioa) (spe : SPE) (qdp : QDP) (duration : CP16Time2a) (time : CP24Time2a) :
    Statement (.mEpTb1 ioa spe qdp duration time) := of_row rfl rfl rfl
theorem mEpTc1 (ioa : Ioa) (oci : OCI) (qdp : QDP) (optime : CP16Time2a) (time : CP24Time2a) :
    Statement (.mEpTc1 ioa oci qdp optime time) := of_row rfl rfl rfl
theorem mPsNa1 (ioa : Ioa) (scd : SCD) (qds : QDS) : Statement (.mPsNa1 ioa scd qds) := of_row rfl rfl rfl
theorem mMeNd1 (ioa : Ioa) (nva : NVA) : Statement (.mMeNd1 ioa nva) := of_row rfl rfl rfl
theorem mSpTb1 (ioa : Ioa) (siq : SIQ) (time : CP56Time2a) : Statement (.mSpTb1 ioa siq time) := of_row rfl rfl rfl
theorem mDpTb1 (ioa : Ioa) (diq : DIQ) (time : CP56Time2a) : Statement (.mDpTb1 ioa diq time) := of_row rfl rfl rfl
theorem mStTb1 (ioa : Ioa) (vti : VTI) (qds : QDS) (time : CP56Time2a) :
    Statement (.mStTb1 ioa vti qds time) := of_row rfl rfl rfl
theorem mBoTb1 (ioa : Ioa) (bsi : BSI) (qds : QDS) (time : CP56Time2a) :
    Statement (.mBoTb1 ioa bsi qds time) := of_row rfl rfl rfl
theorem mMeTd1 (ioa : Ioa) (nva : NVA) (qds : QDS) (time : CP56Time2a) :
    Statement (.mMeTd1 ioa nva qds time) := of_row rfl rfl rfl
theorem mMeTe1 (ioa : Ioa) (sva : SVA) (qds : QDS) (time : CP56Time2a) :
    Statement (.mMeTe1 ioa sva qds time) := of_row rfl rfl rfl
theorem mMeTf1 (ioa : Ioa) (r32 : R32) (qds : QDS) (time : CP56Time2a) :
    Statement (.mMeTf1 ioa r32 qds time) := of_row rfl rfl rfl
theorem mItTb1 (ioa : Ioa) (bcr : BCR) (time : CP56Time2a) : Statement (.mItTb1 ioa bcr time) := of_row rfl rfl rfl
theorem mEpTd1 (ioa : Ioa) (sep : SEP) (elapsed : CP16Time2a) (time : CP56Time2a) :
    Statement (.mEpTd1 ioa sep elapsed time) := of_row rfl rfl rfl
theorem mEpTe1 (ioa : Ioa) (spe : SPE) (qdp : QDP) (duration : CP16Time2a) (time : CP56Time2a) :
    Statement (.mEpTe1 ioa spe qdp duration time) := of_row rfl rfl rfl
theorem mEpTf1 (ioa : Ioa) (oci : OCI) (qdp : QDP) (optime : CP16Time2a) (time : CP56Time2a) :
    Statement (.mEpTf1 ioa oci qdp optime time) := of_row rfl rfl rfl
theorem cScNa1 (ioa : Ioa) (sco : SCO) : Statement (.cScNa1 ioa sco) := of_row rfl rfl rfl
theorem cDcNa1 (ioa : Ioa) (dco : DCO) : Statement (.cDcNa1 ioa dco) := of_row rfl rfl rfl
theorem cRcNa1 (ioa : Ioa) (rco : RCO) : Statement (.cRcNa1 ioa rco) := of_row rfl rfl rfl
theorem cSeNa1 (ioa : Ioa) (nva : NVA) (qos : QOS) : Statement (.cSeNa1 ioa nva qos) := of_row rfl rfl rfl
theorem cSeNb1 (ioa : Ioa) (sva : SVA) (qos : QOS) : Statement (.cSeNb1 ioa sva qos) := of_row rfl rfl rfl
theorem cSeNc1 (ioa : Ioa) (r32 : R32) (qos : QOS) : Statement (.cSeNc1 ioa r32 qos) := of_row rfl rfl rfl
theorem cBoNa1 (ioa : Ioa) (bsi : BSI) : Statement (.cBoNa1 ioa bsi) := of_row rfl rfl rfl
theorem cScTa1 (ioa : Ioa) (sco : SCO) (time : CP56Time2a) : Statement (.cScTa1 ioa sco time) := of_row rfl rfl rfl
theorem cDcTa1 (ioa : Ioa) (dco : DCO) (time : CP56Time2a) : Statement (.cDcTa1 ioa dco time) := of_row rfl rfl rfl
theorem cRcTa1 (ioa : Ioa) (rco : RCO) (time : CP56Time2a) : Statement (.cRcTa1 ioa rco time) := of_row rfl rfl rfl
theorem cSeTa1 (ioa : Ioa) (nva : NVA) (qos : QOS) (time : CP56Time2a) :
    Statement (.cSeTa1 ioa nva qos time) := of_row rfl rfl rfl
theorem cSeTb1 (ioa : Ioa) (sva : SVA) (qos : QOS) (time : CP56Time2a) :
    Statement (.cSeTb1 ioa sva qos time) := of_row rfl rfl rfl
theorem cSeTc1 (ioa : Ioa) (r32 : R32) (qos : QOS) (time : CP56Time2a) :
    Statement (.cSeTc1 ioa r32 qos time) := of_row rfl rfl rfl
theorem cBoTa1 (ioa : Ioa) (bsi : BSI) (time : CP56Time2a) : Statement (.cBoTa1 ioa bsi time) := of_row rfl rfl rfl
theorem mEiNa1 (ioa : Ioa) (coi : COI) : Statement (.mEiNa1 ioa coi) := of_row rfl rfl rfl
theorem cIcNa1 (ioa : Ioa) (qoi : QOI) : Statement (.cIcNa1 ioa qoi) := of_row rfl rfl rfl
theorem cCiNa1 (ioa : Ioa) (qcc : QCC) : Statement (.cCiNa1 ioa qcc) := of_row rfl rfl rfl
theorem cRdNa1 (ioa : Ioa) : Statement (.cRdNa1 ioa) := of_row rfl rfl rfl
theorem cCsNa1 (ioa : Ioa) (time : CP56Time2a) : Statement (.cCsNa1 ioa time) := of_row rfl rfl rfl
theorem cTsNa1 (ioa : Ioa) (fbp : FBP) : Statement (.cTsNa1 ioa fbp) := of_row rfl rfl rfl
theorem cRpNa1 (ioa : Ioa) (qrp : QRP) : Statement (.cRpNa1 ioa qrp) := of_row rfl rfl rfl
theorem cCdNa1 (ioa : Ioa) (delay : CP16Time2a) : Statement (.cCdNa1 ioa delay) := of_row rfl rfl rfl
theorem cTsTa1 (ioa : Ioa) (tsc : TSC) (time : CP56Time2a) : Statement (.cTsTa1 ioa tsc time) := of_row rfl rfl rfl
theorem pMeNa1 (ioa : Ioa) (nva : NVA) (qpm : QPM) : Statement (.pMeNa1 ioa nva qpm) := of_row rfl rfl rfl
theorem pMeNb1 (ioa : Ioa) (sva : SVA) (qpm : QPM) : Statement (.pMeNb1 ioa sva qpm) := of_row rfl rfl rfl
theorem pMeNc1 (ioa : Ioa) (r32 : R32) (qpm : QPM) : Statement (.pMeNc1 ioa r32 qpm) := of_row rfl rfl rfl
theorem pAcNa1 (ioa : Ioa) (qpa : QPA) : Statement (.pAcNa1 ioa qpa) := of_row rfl rfl rfl
theorem fFrNa1 (ioa : Ioa) (nof : NOF) (lof : LOF) (frq : FRQ) :
    Statement (.fFrNa1 ioa nof lof frq) := of_row rfl rfl rfl
theorem fSrNa1 (ioa : Ioa) (nof : NOF) (nos : NOS) (lof : LOF) (srq : SRQ) :
    Statement (.fSrNa1 ioa nof nos lof srq) := of_row rfl rfl rfl
theorem fScNa1 (ioa : Ioa) (nof : NOF) (nos : NOS) (scq : SCQ) :
    Statement (.fScNa1 ioa nof nos scq) := of_row rfl rfl rfl
theorem fLsNa1 (ioa : Ioa) (nof : NOF) (nos : NOS) (lsq : LSQ) (chs : CHS) :
    Statement (.fLsNa1 ioa nof nos lsq chs) := of_row rfl rfl rfl
theorem fAfNa1 (ioa : Ioa) (nof : NOF) (nos : NOS) (afq : AFQ) :
    Statement (.fAfNa1 ioa nof nos afq) := of_row rfl rfl rfl
theorem fSgNa1 (ioa : Ioa) (nof : NOF) (nos : NOS) (seg : List Byte) :
    Statement (.fSgNa1 ioa nof nos seg) := of_row rfl rfl rfl
theorem fDrTa1 (ioa : Ioa) (nof : NOF) (lof : LOF) (sof : SOF) (time : CP56Time2a) :
    Statement (.fDrTa1 ioa nof lof sof time) := of_row rfl rfl rfl
theorem fScNb1 (ioa : Ioa) (nof : NOF) (start : CP56Time2a) (stop : CP56Time2a) :
    Statement (.fScNb1 ioa nof start stop) := of_row rfl rfl rfl
theorem iFrame (ns7 : BitVec 7) (ctrl2 : Byte) (ctrl3 : Byte) (ctrl4 : Byte) (tail : List Byte) :
    Statement (.iFrame ns7 ctrl2 ctrl3 ctrl4 tail) := of_row rfl rfl (by revert ns7; decide)
theorem sFrame (ctrl2 : Byte) (ctrl3 : Byte) (ctrl4 : Byte) (tail : List Byte) :
    Statement (.sFrame ctrl2 ctrl3 ctrl4 tail) := of_row rfl rfl rfl
theorem uStartdtAct (ctrl2 : Byte) (ctrl3 : Byte) (ctrl4 : Byte) (tail : List Byte) :
    Statement (.uStartdtAct ctrl2 ctrl3 ctrl4 tail) := of_row rfl rfl rfl
theorem uStartdtCon (ctrl2 : Byte) (ctrl3 : Byte) (ctrl4 : Byte) (tail : List Byte) :
    Statement (.uStartdtCon ctrl2 ctrl3 ctrl4 tail) := of_row rfl rfl rfl
theorem uStopdtAct (ctrl2 : Byte) (ctrl3 : Byte) (ctrl4 : Byte) (tail : List Byte) :
    Statement (.uStopdtAct ctrl2 ctrl3 ctrl4 tail) := of_row rfl rfl rfl
theorem uStopdtCon (ctrl2 : Byte) (ctrl3 : Byte) (ctrl4 : Byte) (tail : List Byte) :
    Statement (.uStopdtCon ctrl2 ctrl3 ctrl4 tail) := of_row rfl rfl rfl
theorem uTestfrAct (ctrl2 : Byte) (ctrl3 : Byte) (ctrl4 : Byte) (tail : List Byte) :
    Statement (.uTestfrAct ctrl2 ctrl3 ctrl4 tail) := of_row rfl rfl rfl
theorem uTestfrCon (ctrl2 : Byte) (ctrl3 : Byte) (ctrl4 : Byte) (tail : List Byte) :
    Statement (.uTestfrCon ctrl2 ctrl3 ctrl4 tail) := of_row rfl rfl rfl
theorem ft12Fixed (tail : List Byte) : Statement (.ft12Fixed tail) := of_row rfl rfl rfl
theorem ft12Variable (tail : List Byte) : Statement (.ft12Variable tail) := of_row rfl rfl rfl
theorem ft12Single (tail : List Byte) : Statement (.ft12Single tail) := of_row rfl rfl rfl
theorem unbPriResetRemoteLink (bit7 : BitVec 1) (fcb : BitVec 1) (fcv : BitVec 1) (addr : List Byte) :
    Statement (.unbPriResetRemoteLink bit7 fcb fcv addr) := of_row rfl rfl (ctlOctet_row _ _ _ _ _)
theorem unbPriResetUserProcess (bit7 : BitVec 1) (fcb : BitVec 1) (fcv : BitVec 1) (addr : List Byte) :
    Statement (.unbPriResetUserProcess bit7 fcb fcv addr) := of_row rfl rfl (ctlOctet_row _ _ _ _ _)
theorem unbPriUserDataConfirm (bit7 : BitVec 1) (fcb : BitVec 1) (fcv : BitVec 1) (addr : List Byte) (ud : List Byte) :
    Statement (.unbPriUserDataConfirm bit7 fcb fcv addr ud) := of_row rfl rfl (ctlOctet_row _ _ _ _ _)
theorem unbPriUserDataNoReply (bit7 : BitVec 1) (fcb : BitVec 1) (fcv : BitVec 1) (addr : List Byte) (ud : List Byte) :
    Statement (.unbPriUserDataNoReply bit7 fcb fcv addr ud) := of_row rfl rfl (ctlOctet_row _ _ _ _ _)
theorem unbPriRequestAccessDemand (bit7 : BitVec 1) (fcb : BitVec 1) (fcv : BitVec 1) (addr : List Byte) :
    Statement (.unbPriRequestAccessDemand bit7 fcb fcv addr) := of_row rfl rfl (ctlOctet_row _ _ _ _ _)
theorem unbPriRequestLinkStatus (bit7 : BitVec 1) (fcb : BitVec 1) (fcv : BitVec 1) (addr : List Byte) :
    Statement (.unbPriRequestLinkStatus bit7 fcb fcv addr) := of_row rfl rfl (ctlOctet_row _ _ _ _ _)
theorem unbPriRequestClass1 (bit7 : BitVec 1) (fcb : BitVec 1) (fcv : BitVec 1) (addr : List Byte) :
    Statement (.unbPriRequestClass1 bit7 fcb fcv addr) := of_row rfl rfl (ctlOctet_row _ _ _ _ _)
theorem unbPriRequestClass2 (bit7 : BitVec 1) (fcb : BitVec 1) (fcv : BitVec 1) (addr : List Byte) :
    Statement (.unbPriRequestClass2 bit7 fcb fcv addr) := of_row rfl rfl (ctlOctet_row _ _ _ _ _)
theorem balPriResetRemoteLink (bit7 : BitVec 1) (fcb : BitVec 1) (fcv : BitVec 1) (addr : List Byte) :
    Statement (.balPriResetRemoteLink bit7 fcb fcv addr) := of_row rfl rfl (ctlOctet_row _ _ _ _ _)
theorem balPriResetUserProcess (bit7 : BitVec 1) (fcb : BitVec 1) (fcv : BitVec 1) (addr : List Byte) :
    Statement (.balPriResetUserProcess bit7 fcb fcv addr) := of_row rfl rfl (ctlOctet_row _ _ _ _ _)
theorem balPriTestLink (bit7 : BitVec 1) (fcb : BitVec 1) (fcv : BitVec 1) (addr : List Byte) :
    Statement (.balPriTestLink bit7 fcb fcv addr) := of_row rfl rfl (ctlOctet_row _ _ _ _ _)
theorem balPriUserDataConfirm (bit7 : BitVec 1) (fcb : BitVec 1) (fcv : BitVec 1) (addr : List Byte) (ud : List Byte) :
    Statement (.balPriUserDataConfirm bit7 fcb fcv addr ud) := of_row rfl rfl (ctlOctet_row _ _ _ _ _)
theorem balPriUserDataNoReply (bit7 : BitVec 1) (fcb : BitVec 1) (fcv : BitVec 1) (addr : List Byte) (ud : List Byte) :
    Statement (.balPriUserDataNoReply bit7 fcb fcv addr ud) := of_row rfl rfl (ctlOctet_row _ _ _ _ _)
theorem balPriRequestLinkStatus (bit7 : BitVec 1) (fcb : BitVec 1) (fcv : BitVec 1) (addr : List Byte) :
    Statement (.balPriRequestLinkStatus bit7 fcb fcv addr) := of_row rfl rfl (ctlOctet_row _ _ _ _ _)
theorem unbSecAck (bit7 : BitVec 1) (acd : BitVec 1) (dfc : BitVec 1) (addr : List Byte) :
    Statement (.unbSecAck bit7 acd dfc addr) := of_row rfl rfl (ctlOctet_row _ _ _ _ _)
theorem unbSecNackBusy (bit7 : BitVec 1) (acd : BitVec 1) (dfc : BitVec 1) (addr : List Byte) :
    Statement (.unbSecNackBusy bit7 acd dfc addr) := of_row rfl rfl (ctlOctet_row _ _ _ _ _)
theorem unbSecUserData (bit7 : BitVec 1) (acd : BitVec 1) (dfc : BitVec 1) (addr : List Byte) (ud : List Byte) :
    Statement (.unbSecUserData bit7 acd dfc addr ud) := of_row rfl rfl (ctlOctet_row _ _ _ _ _)
theorem unbSecNackNoData (bit7 : BitVec 1) (acd : BitVec 1) (dfc : BitVec 1) (addr : List Byte) :
    Statement (.unbSecNackNoData bit7 acd dfc addr) := of_row rfl rfl (ctlOctet_row _ _ _ _ _)
theorem unbSecLinkStatus (bit7 : BitVec 1) (acd : BitVec 1) (dfc : BitVec 1) (addr : List Byte) :
    Statement (.unbSecLinkStatus bit7 acd dfc addr) := of_row rfl rfl (ctlOctet_row _ _ _ _ _)
theorem unbSecLinkNotFunctioning (bit7 : BitVec 1) (acd : BitVec 1) (dfc : BitVec 1) (addr : List Byte) :
    Statement (.unbSecLinkNotFunctioning bit7 acd dfc addr) := of_row rfl rfl (ctlOctet_row _ _ _ _ _)
theorem unbSecLinkNotImplemented (bit7 : BitVec 1) (acd : BitVec 1) (dfc : BitVec 1) (addr : List Byte) :
    Statement (.unbSecLinkNotImplemented bit7 acd dfc addr) := of_row rfl rfl (ctlOctet_row _ _ _ _ _)
theorem balSecAck (bit7 : BitVec 1) (bit5 : BitVec 1) (dfc : BitVec 1) (addr : List Byte) :
    Statement (.balSecAck bit7 bit5 dfc addr) := of_row rfl rfl (ctlOctet_row _ _ _ _ _)
theorem balSecNackBusy (bit7 : BitVec 1) (bit5 : BitVec 1) (dfc : BitVec 1) (addr : List Byte) :
    Statement (.balSecNackBusy bit7 bit5 dfc addr) := of_row rfl rfl (ctlOctet_row _ _ _ _ _)
theorem balSecLinkStatus (bit7 : BitVec 1) (bit5 : BitVec 1) (dfc : BitVec 1) (addr : List Byte) :
    Statement (.balSecLinkStatus bit7 bit5 dfc addr) := of_row rfl rfl (ctlOctet_row _ _ _ _ _)
theorem balSecLinkNotFunctioning (bit7 : BitVec 1) (bit5 : BitVec 1) (dfc : BitVec 1) (addr : List Byte) :
    Statement (.balSecLinkNotFunctioning bit7 bit5 dfc addr) := of_row rfl rfl (ctlOctet_row _ _ _ _ _)
theorem balSecLinkNotImplemented (bit7 : BitVec 1) (bit5 : BitVec 1) (dfc : BitVec 1) (addr : List Byte) :
    Statement (.balSecLinkNotImplemented bit7 bit5 dfc addr) := of_row rfl rfl (ctlOctet_row _ _ _ _ _)

end FirstOctet

end Sys2Proof.Laws
end

