-- ==== Sys2Proof/Laws/Units.lean ====
section
/-! SUPPORT. For the shared operation of each unit one lemma that says everything it can do: what ASDU_ADD_IO, FT12_DECODE
and APCI_RECEIVE share with the rows of the opcode table that stand for a use of them. -/

namespace Sys2Proof.Machine

/-! ## ASDU_ADD_IO -/

/-- The builder's state after an object was stored (44_asdu_codec.md R321). -/
def State.withElement (s : State) (type : Byte) (ioa : Nat) (part : List Byte) : State :=
  let b := s.builder.added type ioa part.length
  let m := Mem.write s.abuf s.builder.len.toNat part
  let m := Mem.write m 0 (if s.builder.count = 0#7 then [type] else [])
  { s with abuf := Mem.write m 1 [vsqOctet b.sq b.count], builder := b }

theorem storeElement_inside {s : State} {type : Byte} {ioa : Nat} {part : List Byte}
    (h : s.builder.len.toNat + part.length ≤ Buf.abuf.size) :
    storeElement type ioa part s = .next ((s.withElement type ioa part).withStatus .ok 0#16) := by
  have h0 : 0 + (if s.builder.count = 0#7 then [type] else []).length ≤ Buf.abuf.size := by
    split <;> simp [Buf.size]
  have h1 (v : Byte) : 1 + [v].length ≤ Buf.abuf.size := by simp [Buf.size]
  unfold storeElement
  rw [State.store_inside h, State.store_inside h0, State.store_inside (h1 _)]
  rfl

/-- What ASDU_ADD_IO answers (44_asdu_codec.md R321): a status that changes nothing else, or the object stored. -/
theorem addObject_next {type : Byte} {ioa : Nat} {body : Option Body} {s t : State}
    (h : addObject type ioa body s = .next t) :
    (∃ e info, e.fatal = false ∧ e ≠ .ok ∧ t = s.withStatus e info) ∨
    (∃ c b, s.config = some c ∧ body = some b ∧ s.builder.active = true ∧ s.builder.raw = false ∧
      (psizeOf? c type).isSome = true ∧ (s.builder.type = none ∨ s.builder.type = some type) ∧
      ioa < 2 ^ (8 * c.ioaLen) ∧ bodyFits c type b = true ∧ s.builder.count.toNat < 127 ∧
      s.builder.len.toNat + (elementPart c s.builder ioa b).length ≤ c.maxAsduLen ∧
      t = (s.withElement type ioa (elementPart c s.builder ioa b)).withStatus .ok 0#16) := by
  have refused {e : Status} {info : BitVec 16} (hf : e.fatal = false) (hok : e ≠ .ok) (hr : s.raise e info = .next t) :
      ∃ e info, e.fatal = false ∧ e ≠ .ok ∧ t = s.withStatus e info := by
    rw [State.raise_nonfatal hf] at hr
    injection hr with hr
    exact ⟨e, info, hf, hok, hr.symm⟩
  rcases State.configured_next h with ⟨_, ht⟩ | ⟨c, hc, h⟩
  · exact .inl ⟨_, _, rfl, by decide, ht⟩
  rcases State.check_next h with ⟨hactive, h⟩ | ⟨_, h⟩
  swap; · exact .inl (refused rfl (by decide) h)
  rcases State.check_next h with ⟨hraw, h⟩ | ⟨_, h⟩
  swap; · exact .inl (refused rfl (by decide) h)
  rcases State.check_next h with ⟨hknown, h⟩ | ⟨_, h⟩
  swap; · exact .inl (refused rfl (by decide) h)
  rcases State.check_next h with ⟨htype, h⟩ | ⟨_, h⟩
  swap; · exact .inl (refused rfl (by decide) h)
  rcases State.check_next h with ⟨hioa, h⟩ | ⟨_, h⟩
  swap; · exact .inl (refused rfl (by decide) h)
  cases body with
  | none => exact .inl (refused rfl (by decide) h)
  | some b =>
    rcases State.check_next h with ⟨hfits, h⟩ | ⟨_, h⟩
    swap; · exact .inl (refused rfl (by decide) h)
    rcases State.check_next h with ⟨hcount, h⟩ | ⟨_, h⟩
    swap; · exact .inl (refused rfl (by decide) h)
    rcases State.check_next h with ⟨_, h⟩ | ⟨_, h⟩
    swap; · exact .inl (refused rfl (by decide) h)
    rcases State.check_next h with ⟨_, h⟩ | ⟨_, h⟩
    swap; · exact .inl (refused rfl (by decide) h)
    rcases State.check_next h with ⟨hlen, h⟩ | ⟨_, h⟩
    swap; · exact .inl (refused rfl (by decide) h)
    have hsize : s.builder.len.toNat + (elementPart c s.builder ioa b).length ≤ Buf.abuf.size := by
      by_contra hn
      rw [storeElement, State.store, if_neg hn] at h
      cases h
    rw [storeElement_inside hsize] at h
    injection h with h
    exact .inr ⟨c, b, hc, rfl, hactive, hraw, hknown, htype, hioa, hfits, hcount, hlen, h.symm⟩

/-! ## FT12_DECODE -/

/-- What FT12_DECODE answers (45_ft12_link.md R365): the link registers and the status, and nothing else. -/
theorem decodeFrame_next {len : BitVec 16} {s t : State} (h : decodeFrame len s = .next t) :
    (s.config = none ∧ t = s.withStatus .notConfigured 0#16) ∨
    (∃ e info, e.fatal = false ∧ e ≠ .ok ∧ t = { s with link.valid := false }.withStatus e info) ∨
    (∃ l : LinkRx, l.valid = true ∧ t = { s with link := l }.withStatus .ok 0#16) := by
  rcases State.configured_next h with hn | ⟨c, _, h⟩
  · exact .inl hn
  rcases State.check_next h with ⟨_, h⟩ | ⟨_, h⟩
  · have h := (State.load_next h).2
    unfold takeFrame at h
    have refused {e : Status} {info : BitVec 16} (hf : e.fatal = false) (hok : e ≠ .ok)
        (hr : State.raise { s with link.valid := false } e info = .next t) :
        ∃ e info, e.fatal = false ∧ e ≠ .ok ∧ t = { s with link.valid := false }.withStatus e info := by
      rw [State.raise_nonfatal hf] at hr
      injection hr with hr
      exact ⟨e, info, hf, hok, hr.symm⟩
    split at h
    · exact .inr (.inl (refused rfl (by decide) h))
    · exact .inr (.inl (refused rfl (by decide) h))
    all_goals
      injection h with h
      exact .inr (.inr ⟨_, rfl, h.symm⟩)
  · rw [State.raise_nonfatal rfl] at h
    injection h with h
    exact .inr (.inl ⟨_, _, rfl, by decide, h.symm⟩)

/-! ## APCI_RECEIVE -/

/-- What APCI_RECEIVE answers (46_apci.md R417, 60_exceptions.md R503): the APCI registers and the status, and nothing
else. -/
theorem receiveApdu_next {len : BitVec 16} {s t : State} (h : receiveApdu len s = .next t) :
    ∃ (a : Apci) (e : Status) (info : BitVec 16), t = { s with apci := a }.withStatus e info := by
  have raised {u : State} (hu : ∃ a : Apci, u = { s with apci := a }) {e : Status} {info : BitVec 16}
      (hr : u.raise e info = .next t) : ∃ (a : Apci) (e : Status) (info : BitVec 16),
        t = { s with apci := a }.withStatus e info := by
    obtain ⟨a, rfl⟩ := hu
    rw [State.raise_eq] at hr
    injection hr with hr
    split at hr
    · exact ⟨_, e, info, hr.symm⟩
    · exact ⟨a, e, info, hr.symm⟩
  have finished {a : Apci} (hr : State.finish { s with apci := a } = .next t) :
      ∃ (a : Apci) (e : Status) (info : BitVec 16), t = { s with apci := a }.withStatus e info := by
    injection hr with hr
    exact ⟨a, _, _, hr.symm⟩
  rcases State.configured_next h with ⟨_, ht⟩ | ⟨c, _, h⟩
  · exact ⟨s.apci, _, _, ht⟩
  rcases State.check_next h with ⟨_, h⟩ | ⟨_, h⟩
  swap; · exact raised ⟨s.apci, rfl⟩ h
  rcases State.check_next h with ⟨_, h⟩ | ⟨_, h⟩
  swap; · exact raised ⟨s.apci, rfl⟩ h
  have h := (State.load_next h).2
  unfold takeApdu at h
  rcases State.check_next h with ⟨_, h⟩ | ⟨_, h⟩
  swap; · exact raised ⟨s.apci, rfl⟩ h
  rcases State.check_next h with ⟨_, h⟩ | ⟨_, h⟩
  swap; · exact raised ⟨s.apci, rfl⟩ h
  rcases State.check_next h with ⟨_, h⟩ | ⟨_, h⟩
  swap; · exact raised ⟨s.apci, rfl⟩ h
  split at h
  · unfold receiveI at h
    rcases State.check_next h with ⟨_, h⟩ | ⟨_, h⟩
    swap; · exact raised ⟨s.apci, rfl⟩ h
    rcases State.check_next h with ⟨_, h⟩ | ⟨_, h⟩
    swap; · exact raised ⟨s.apci, rfl⟩ h
    rcases State.check_next h with ⟨_, h⟩ | ⟨_, h⟩
    swap; · exact raised ⟨s.apci, rfl⟩ h
    exact finished h
  · rcases State.check_next h with ⟨_, h⟩ | ⟨_, h⟩
    swap; · exact raised ⟨s.apci, rfl⟩ h
    unfold receiveS at h
    rcases State.check_next h with ⟨_, h⟩ | ⟨_, h⟩
    swap; · exact raised ⟨s.apci, rfl⟩ h
    rcases State.check_next h with ⟨_, h⟩ | ⟨_, h⟩
    swap; · exact raised ⟨s.apci, rfl⟩ h
    exact finished h
  · rcases State.check_next h with ⟨_, h⟩ | ⟨_, h⟩
    swap; · exact raised ⟨s.apci, rfl⟩ h
    unfold receiveU at h
    split at h
    · exact finished h
    · exact raised ⟨_, rfl⟩ h
  · rcases State.check_next h with ⟨_, h⟩ | ⟨_, h⟩
    swap; · exact raised ⟨s.apci, rfl⟩ h
    exact raised ⟨s.apci, rfl⟩ h

end Sys2Proof.Machine
end

