-- ==== Sys2Proof/Tests/Slice0.lean ====
section
/-! SUPPORT. The model's own tests: the well-formedness checks, a written-out word of every constructor, one step of every
instruction on a value the spec gives (95_test_vectors.md and the examples of the rules), and a state that meets the
hypotheses of each statement. -/

namespace Sys2Proof.Tests

open Sys2Proof Sys2Proof.Machine

set_option Elab.async false

/-! ## Helpers -/

/-- The state of an answer. -/
def stateOf : Out → State
  | .next t => t
  | .fault _ => State.reset
  | .refused _ => State.reset

/-- Did the instruction answer a next state? -/
def isNext : Out → Bool
  | .next _ => true
  | .fault _ => false
  | .refused _ => false

theorem eq_next {out : Out} (h : isNext out = true) : out = .next (stateOf out) := by
  cases out with
  | next t => rfl
  | fault r => cases h
  | refused r => cases h

/-- Does an answer have the given values in the state after it? -/
def gives {α : Type} [DecidableEq α] (out : Out) (f : State → α) (v : α) : Bool :=
  isNext out && decide (f (stateOf out) = v)

/-- Do the octets decode to the instruction, and does it encode to them? -/
def wordOf (sp : Space) (os : List Byte) (i : Instr) : Bool :=
  (match decode sp os with
    | .ok (j, []) => decide (j = i)
    | _ => false) && decide (encode i = os) && i.wf

/-- The configuration CFG104 of 95_test_vectors.md section 0. -/
def cfg104 : Config :=
  { cotLen := 2, caLen := 2, ioaLen := 3, typeIdLen := 1, maxAsduLen := 249, k := 12, w := 8, linkAddrLen := 1,
    linkMode := .unbalanced, apciRole := .controlled, strictLength := false, fcsMode := .sum8, privateTypes := [] }

/-- CFG104 as a RESET operand. -/
def op104 : ConfigOperand :=
  { cotLen := 2#8, caLen := 2#8, ioaLen := 3#8, typeIdLen := 1#8, maxAsduLen := 249#16, k := 12#16, w := 8#16,
    linkAddrLen := 1#8, linkMode := 0#8, apciRole := 0#8, strictLength := 0#8, fcsMode := 0#8, privateTypes := [] }

/-- CFG101 of 95_test_vectors.md section 0. -/
def cfg101 : Config := { cfg104 with cotLen := 1, caLen := 1, ioaLen := 2 }

/-- The block after a RESET with a configuration. -/
def after (c : Config) : State := State.reset.resetWith c

/-- The block after a RESET with CFG104. -/
def base : State := after cfg104

/-- A builder of a new ASDU under CFG104. -/
def newBuilder : Builder := { Builder.reset with active := true, cot := 3#6, ca := 1#16, len := 6#8 }

/-- `base` with that builder. -/
def building : State := { base with builder := newBuilder, abuf := [(2, 3#8), (4, 1#8)] }

/-- `base` with octets in RXBUF. -/
def holding (os : List Byte) : State := { base with rxbuf := Mem.write [] 0 os }

/-- `base` in data transfer. -/
def started : State := { base with apci.state := .started }

/-- `started` with the window 5..16 and VS = 17 (95_test_vectors.md row W1). -/
def window5to16 : State :=
  { base with apci.state := .started, apci.vs := 17#15, apci.winCount := 12
              apci.win := (List.range 12).map fun j => ⟨BitVec.ofNat 15 (5 + j), ⟨BitVec.ofNat 16 j, 0#64⟩⟩ }

theorem memOk_of {s : State} (h : ∀ b, b ∈ [Buf.rxbuf, Buf.txbuf, Buf.abuf] →
    (Mem.wf (s.buf b) && Mem.inBounds b.size (s.buf b)) = true) : s.MemOk := by
  intro b
  have hb := h b (by cases b <;> decide)
  simpa using hb

/-! ## Well-formedness refuses what is ill formed -/

theorem test_wf_reset_too_many_private_types :
    (Instr.reset { op104 with privateTypes := List.replicate 256 ⟨200#8, 1#8, false⟩ }).wf = false := by decide +kernel
theorem test_wf_reset_private_types_not_rising :
    (Instr.reset { op104 with privateTypes := [⟨201#8, 1#8, false⟩, ⟨200#8, 1#8, false⟩] }).wf = false := by decide
theorem test_wf_addIo_raw_too_long :
    (Instr.asduAddIo ⟨200#8, 1#32, .raw (List.replicate 65536 0#8)⟩).wf = false := by
  simp only [Instr.wf, BodyOperand.wf, List.length_replicate, Nat.lt_irrefl, decide_false]
theorem test_wf_addIo_segment_too_long :
    (Instr.asduAddIo ⟨125#8, 1#32, .seg 1#64 1#64 (List.replicate 65536 0#8)⟩).wf = false := by
  simp only [Instr.wf, BodyOperand.wf, List.length_replicate, Nat.lt_irrefl, decide_false]
theorem test_wf_addIo_variant_of_type_125 :
    (Instr.asduAddIo ⟨125#8, 1#32, .std .fSgNa1 []⟩).wf = false := by decide
theorem test_wf_addIo_value_missing : (Instr.asduAddIo ⟨11#8, 1#32, .std .mMeNb1 [1#64]⟩).wf = false := by decide
theorem test_wf_setRaw_too_long : (Instr.asduSetRaw 200#8 1#8 (List.replicate 256 0#8)).wf = false := by decide +kernel
theorem test_wf_segment_too_long : (Instr.fSgNa1 0#24 ⟨1#16⟩ ⟨1#8⟩ (List.replicate 256 0#8)).wf = false := by decide +kernel

theorem test_wf_apdu_too_long :
    [!(Instr.iFrame 1#7 0#8 0#8 0#8 (List.replicate 252 0#8)).wf,
     !(Instr.sFrame 0#8 0#8 0#8 (List.replicate 252 0#8)).wf,
     !(Instr.uStartdtAct 0#8 0#8 0#8 (List.replicate 252 0#8)).wf,
     !(Instr.uStartdtCon 0#8 0#8 0#8 (List.replicate 252 0#8)).wf,
     !(Instr.uStopdtAct 0#8 0#8 0#8 (List.replicate 252 0#8)).wf,
     !(Instr.uStopdtCon 0#8 0#8 0#8 (List.replicate 252 0#8)).wf,
     !(Instr.uTestfrAct 0#8 0#8 0#8 (List.replicate 252 0#8)).wf,
     !(Instr.uTestfrCon 0#8 0#8 0#8 (List.replicate 252 0#8)).wf].all (fun b => b) = true := by decide +kernel

theorem test_wf_frame_too_long :
    [!(Instr.ft12Fixed (List.replicate 261 0#8)).wf,
     !(Instr.ft12Variable (List.replicate 261 0#8)).wf,
     !(Instr.ft12Single (List.replicate 261 0#8)).wf].all (fun b => b) = true := by decide +kernel

theorem test_wf_link_address_too_long :
    [!(Instr.unbPriResetRemoteLink 0#1 0#1 0#1 [0#8, 0#8, 0#8]).wf,
     !(Instr.unbPriResetUserProcess 0#1 0#1 0#1 [0#8, 0#8, 0#8]).wf,
     !(Instr.unbPriUserDataConfirm 0#1 0#1 0#1 [0#8, 0#8, 0#8] []).wf,
     !(Instr.unbPriUserDataNoReply 0#1 0#1 0#1 [0#8, 0#8, 0#8] []).wf,
     !(Instr.unbPriRequestAccessDemand 0#1 0#1 0#1 [0#8, 0#8, 0#8]).wf,
     !(Instr.unbPriRequestLinkStatus 0#1 0#1 0#1 [0#8, 0#8, 0#8]).wf,
     !(Instr.unbPriRequestClass1 0#1 0#1 0#1 [0#8, 0#8, 0#8]).wf,
     !(Instr.unbPriRequestClass2 0#1 0#1 0#1 [0#8, 0#8, 0#8]).wf,
     !(Instr.balPriResetRemoteLink 0#1 0#1 0#1 [0#8, 0#8, 0#8]).wf,
     !(Instr.balPriResetUserProcess 0#1 0#1 0#1 [0#8, 0#8, 0#8]).wf,
     !(Instr.balPriTestLink 0#1 0#1 0#1 [0#8, 0#8, 0#8]).wf,
     !(Instr.balPriUserDataConfirm 0#1 0#1 0#1 [0#8, 0#8, 0#8] []).wf,
     !(Instr.balPriUserDataNoReply 0#1 0#1 0#1 [0#8, 0#8, 0#8] []).wf,
     !(Instr.balPriRequestLinkStatus 0#1 0#1 0#1 [0#8, 0#8, 0#8]).wf,
     !(Instr.unbSecAck 0#1 0#1 0#1 [0#8, 0#8, 0#8]).wf,
     !(Instr.unbSecNackBusy 0#1 0#1 0#1 [0#8, 0#8, 0#8]).wf,
     !(Instr.unbSecUserData 0#1 0#1 0#1 [0#8, 0#8, 0#8] []).wf,
     !(Instr.unbSecNackNoData 0#1 0#1 0#1 [0#8, 0#8, 0#8]).wf,
     !(Instr.unbSecLinkStatus 0#1 0#1 0#1 [0#8, 0#8, 0#8]).wf,
     !(Instr.unbSecLinkNotFunctioning 0#1 0#1 0#1 [0#8, 0#8, 0#8]).wf,
     !(Instr.unbSecLinkNotImplemented 0#1 0#1 0#1 [0#8, 0#8, 0#8]).wf,
     !(Instr.balSecAck 0#1 0#1 0#1 [0#8, 0#8, 0#8]).wf,
     !(Instr.balSecNackBusy 0#1 0#1 0#1 [0#8, 0#8, 0#8]).wf,
     !(Instr.balSecLinkStatus 0#1 0#1 0#1 [0#8, 0#8, 0#8]).wf,
     !(Instr.balSecLinkNotFunctioning 0#1 0#1 0#1 [0#8, 0#8, 0#8]).wf,
     !(Instr.balSecLinkNotImplemented 0#1 0#1 0#1 [0#8, 0#8, 0#8]).wf].all (fun b => b) = true := by decide +kernel

theorem test_wf_user_data_too_long :
    [!(Instr.unbPriUserDataConfirm 0#1 0#1 0#1 [0#8] (List.replicate 254 0#8)).wf,
     !(Instr.unbPriUserDataNoReply 0#1 0#1 0#1 [0#8] (List.replicate 254 0#8)).wf,
     !(Instr.balPriUserDataConfirm 0#1 0#1 0#1 [0#8] (List.replicate 254 0#8)).wf,
     !(Instr.balPriUserDataNoReply 0#1 0#1 0#1 [0#8] (List.replicate 254 0#8)).wf,
     !(Instr.unbSecUserData 0#1 0#1 0#1 [0#8] (List.replicate 254 0#8)).wf].all (fun b => b) = true := by decide +kernel

/-! ## A written-out word of every constructor -/

/-- 30_encoding.md R101 and R103: opcode, then the operands in their order (log entry 1). -/
theorem test_decode_commands :
    [wordOf .command [0x00#8] .nop,
     wordOf .command [0x01#8, 0x02#8, 0x02#8, 0x03#8, 0x01#8, 0xF9#8, 0x00#8, 0x0C#8, 0x00#8, 0x08#8, 0x00#8, 0x01#8, 0x01#8, 0x00#8, 0x01#8, 0x00#8, 0x02#8, 0xC8#8, 0x04#8, 0x01#8, 0xC9#8, 0x00#8, 0x00#8] (.reset { op104 with linkMode := 1#8, strictLength := 1#8, privateTypes := [⟨200#8, 4#8, true⟩, ⟨201#8, 0#8, false⟩] }),
     wordOf .command [0x10#8, 0x01#8, 0x00#8, 0x01#8, 0x06#8, 0x02#8, 0x01#8, 0x80#8] (.asduBegin true false true 6#8 2#8 0x8001#16),
     wordOf .command [0x11#8, 0x64#8, 0x01#8, 0x00#8, 0x00#8, 0x00#8, 0x01#8, 0x64#8, 0x14#8, 0x00#8, 0x00#8, 0x00#8, 0x00#8, 0x00#8, 0x00#8, 0x00#8] (.asduAddIo ⟨100#8, 1#32, .std .cIcNa1 [20#64]⟩),
     wordOf .command [0x11#8, 0xC8#8, 0x02#8, 0x01#8, 0x00#8, 0x00#8, 0x00#8, 0x02#8, 0x00#8, 0xAB#8, 0xCD#8] (.asduAddIo ⟨200#8, 0x102#32, .raw [0xAB#8, 0xCD#8]⟩),
     wordOf .command [0x11#8, 0x7D#8, 0x00#8, 0x00#8, 0x00#8, 0x01#8, 0x02#8, 0x01#8, 0x00#8, 0x00#8, 0x00#8, 0x00#8, 0x00#8, 0x00#8, 0x00#8, 0x02#8, 0x00#8, 0x00#8, 0x00#8, 0x00#8, 0x00#8, 0x00#8, 0x00#8, 0x01#8, 0x00#8, 0x55#8] (.asduAddIo ⟨125#8, 0x01000000#32, .seg 1#64 2#64 [0x55#8]⟩),
     wordOf .command [0x12#8, 0xC8#8, 0x01#8, 0x03#8, 0x00#8, 0x00#8, 0xAB#8] (.asduSetRaw 200#8 1#8 [0x00#8, 0x00#8, 0xAB#8]),
     wordOf .command [0x13#8] .asduEncode,
     wordOf .command [0x14#8, 0x06#8, 0x00#8, 0x0A#8, 0x01#8] (.asduDecode 6#16 0x10A#16),
     wordOf .command [0x15#8, 0x07#8] (.asduGetElement 7#8),
     wordOf .command [0x16#8, 0x2C#8, 0x01#8] (.asduRewriteCot 44#8 true),
     wordOf .command [0x20#8, 0x49#8, 0x01#8, 0x80#8] (.ft12EncFixed 0x49#8 0x8001#16),
     wordOf .command [0x21#8, 0x73#8, 0x02#8, 0x00#8] (.ft12EncVar 0x73#8 2#16),
     wordOf .command [0x22#8] .ft12EncSingle,
     wordOf .command [0x23#8, 0x0F#8, 0x01#8] (.ft12Decode 0x10F#16),
     wordOf .command [0x30#8, 0x10#8, 0x00#8] (.apciReceive 16#16),
     wordOf .command [0x31#8, 0x04#8, 0x00#8, 0x08#8, 0x07#8, 0x06#8, 0x05#8, 0x04#8, 0x03#8, 0x02#8, 0x01#8] (.apciSendI ⟨4#16, 0x0102030405060708#64⟩),
     wordOf .command [0x32#8] .apciSendS,
     wordOf .command [0x33#8, 0x05#8] (.apciSendU .testfrCon),
     wordOf .command [0x34#8] .apciReset,
     wordOf .command [0x40#8] .chkResetFile,
     wordOf .command [0x41#8] .chkBeginSection,
     wordOf .command [0x42#8, 0x02#8, 0x14#8, 0x00#8, 0x04#8, 0x00#8] (.chkAdd .abuf 20#16 4#16),
     wordOf .command [0x43#8] .chkAddElement,
     wordOf .command [0x44#8, 0x50#8] (.chkCheckSection 0x50#8),
     wordOf .command [0x45#8] .chkCloseSection,
     wordOf .command [0x46#8, 0x60#8] (.chkCheckFile 0x60#8)].all (fun b => b) = true := by decide +kernel

/-- 95_test_vectors.md section 2.2: type octet, then the element octets of the row. -/
theorem test_decode_types_a :
    [wordOf .asduType [0x01#8, 0x02#8, 0x01#8, 0x00#8, 0x01#8] (.mSpNa1 258#24 ⟨1#1, 0#3, 0#1, 0#1, 0#1, 0#1⟩),
     wordOf .asduType [0x02#8, 0x02#8, 0x01#8, 0x00#8, 0x01#8, 0x39#8, 0x30#8, 0x22#8] (.mSpTa1 258#24 ⟨1#1, 0#3, 0#1, 0#1, 0#1, 0#1⟩ ⟨12345#16, 34#6, 0#1, 0#1⟩),
     wordOf .asduType [0x03#8, 0x02#8, 0x01#8, 0x00#8, 0x02#8] (.mDpNa1 258#24 ⟨2#2, 0#2, 0#1, 0#1, 0#1, 0#1⟩),
     wordOf .asduType [0x04#8, 0x02#8, 0x01#8, 0x00#8, 0x02#8, 0x39#8, 0x30#8, 0x22#8] (.mDpTa1 258#24 ⟨2#2, 0#2, 0#1, 0#1, 0#1, 0#1⟩ ⟨12345#16, 34#6, 0#1, 0#1⟩),
     wordOf .asduType [0x05#8, 0x02#8, 0x01#8, 0x00#8, 0xFD#8, 0x81#8] (.mStNa1 258#24 ⟨125#7, 1#1⟩ ⟨1#1, 0#3, 0#1, 0#1, 0#1, 1#1⟩),
     wordOf .asduType [0x06#8, 0x02#8, 0x01#8, 0x00#8, 0xFD#8, 0x81#8, 0x39#8, 0x30#8, 0x22#8] (.mStTa1 258#24 ⟨125#7, 1#1⟩ ⟨1#1, 0#3, 0#1, 0#1, 0#1, 1#1⟩ ⟨12345#16, 34#6, 0#1, 0#1⟩),
     wordOf .asduType [0x07#8, 0x02#8, 0x01#8, 0x00#8, 0x78#8, 0x56#8, 0x34#8, 0x12#8, 0x81#8] (.mBoNa1 258#24 ⟨305419896#32⟩ ⟨1#1, 0#3, 0#1, 0#1, 0#1, 1#1⟩),
     wordOf .asduType [0x08#8, 0x02#8, 0x01#8, 0x00#8, 0x78#8, 0x56#8, 0x34#8, 0x12#8, 0x81#8, 0x39#8, 0x30#8, 0x22#8] (.mBoTa1 258#24 ⟨305419896#32⟩ ⟨1#1, 0#3, 0#1, 0#1, 0#1, 1#1⟩ ⟨12345#16, 34#6, 0#1, 0#1⟩),
     wordOf .asduType [0x09#8, 0x02#8, 0x01#8, 0x00#8, 0x00#8, 0x40#8, 0x81#8] (.mMeNa1 258#24 ⟨16384#16⟩ ⟨1#1, 0#3, 0#1, 0#1, 0#1, 1#1⟩),
     wordOf .asduType [0x0A#8, 0x02#8, 0x01#8, 0x00#8, 0x00#8, 0x40#8, 0x81#8, 0x39#8, 0x30#8, 0x22#8] (.mMeTa1 258#24 ⟨16384#16⟩ ⟨1#1, 0#3, 0#1, 0#1, 0#1, 1#1⟩ ⟨12345#16, 34#6, 0#1, 0#1⟩),
     wordOf .asduType [0x0B#8, 0x02#8, 0x01#8, 0x00#8, 0xFE#8, 0xFF#8, 0x81#8] (.mMeNb1 258#24 ⟨65534#16⟩ ⟨1#1, 0#3, 0#1, 0#1, 0#1, 1#1⟩),
     wordOf .asduType [0x0C#8, 0x02#8, 0x01#8, 0x00#8, 0xFE#8, 0xFF#8, 0x81#8, 0x39#8, 0x30#8, 0x22#8] (.mMeTb1 258#24 ⟨65534#16⟩ ⟨1#1, 0#3, 0#1, 0#1, 0#1, 1#1⟩ ⟨12345#16, 34#6, 0#1, 0#1⟩),
     wordOf .asduType [0x0D#8, 0x02#8, 0x01#8, 0x00#8, 0x00#8, 0x00#8, 0x80#8, 0x3F#8, 0x81#8] (.mMeNc1 258#24 ⟨1065353216#32⟩ ⟨1#1, 0#3, 0#1, 0#1, 0#1, 1#1⟩),
     wordOf .asduType [0x0E#8, 0x02#8, 0x01#8, 0x00#8, 0x00#8, 0x00#8, 0x80#8, 0x3F#8, 0x81#8, 0x39#8, 0x30#8, 0x22#8] (.mMeTc1 258#24 ⟨1065353216#32⟩ ⟨1#1, 0#3, 0#1, 0#1, 0#1, 1#1⟩ ⟨12345#16, 34#6, 0#1, 0#1⟩),
     wordOf .asduType [0x0F#8, 0x02#8, 0x01#8, 0x00#8, 0xE8#8, 0x03#8, 0x00#8, 0x00#8, 0x25#8] (.mItNa1 258#24 ⟨1000#32, 5#5, 1#1, 0#1, 0#1⟩),
     wordOf .asduType [0x10#8, 0x02#8, 0x01#8, 0x00#8, 0xE8#8, 0x03#8, 0x00#8, 0x00#8, 0x25#8, 0x39#8, 0x30#8, 0x22#8] (.mItTa1 258#24 ⟨1000#32, 5#5, 1#1, 0#1, 0#1⟩ ⟨12345#16, 34#6, 0#1, 0#1⟩),
     wordOf .asduType [0x11#8, 0x02#8, 0x01#8, 0x00#8, 0x0A#8, 0xE8#8, 0x03#8, 0x39#8, 0x30#8, 0x22#8] (.mEpTa1 258#24 ⟨2#2, 0#1, 1#1, 0#1, 0#1, 0#1, 0#1⟩ ⟨1000#16⟩ ⟨12345#16, 34#6, 0#1, 0#1⟩),
     wordOf .asduType [0x12#8, 0x02#8, 0x01#8, 0x00#8, 0x05#8, 0x40#8, 0xE8#8, 0x03#8, 0x39#8, 0x30#8, 0x22#8] (.mEpTb1 258#24 ⟨1#1, 0#1, 1#1, 0#1, 0#1, 0#1, 0#2⟩ ⟨0#3, 0#1, 0#1, 0#1, 1#1, 0#1⟩ ⟨1000#16⟩ ⟨12345#16, 34#6, 0#1, 0#1⟩),
     wordOf .asduType [0x13#8, 0x02#8, 0x01#8, 0x00#8, 0x03#8, 0x40#8, 0xE8#8, 0x03#8, 0x39#8, 0x30#8, 0x22#8] (.mEpTc1 258#24 ⟨1#1, 1#1, 0#1, 0#1, 0#4⟩ ⟨0#3, 0#1, 0#1, 0#1, 1#1, 0#1⟩ ⟨1000#16⟩ ⟨12345#16, 34#6, 0#1, 0#1⟩),
     wordOf .asduType [0x14#8, 0x02#8, 0x01#8, 0x00#8, 0x01#8, 0x00#8, 0x00#8, 0x80#8, 0x81#8] (.mPsNa1 258#24 ⟨1#16, 32768#16⟩ ⟨1#1, 0#3, 0#1, 0#1, 0#1, 1#1⟩),
     wordOf .asduType [0x15#8, 0x02#8, 0x01#8, 0x00#8, 0x00#8, 0x40#8] (.mMeNd1 258#24 ⟨16384#16⟩)].all (fun b => b) = true := by decide +kernel

/-- 95_test_vectors.md section 2.2: type octet, then the element octets of the row. -/
theorem test_decode_types_b :
    [wordOf .asduType [0x1E#8, 0x02#8, 0x01#8, 0x00#8, 0x01#8, 0x24#8, 0x77#8, 0x14#8, 0x0A#8, 0xAF#8, 0x03#8, 0x18#8] (.mSpTb1 258#24 ⟨1#1, 0#3, 0#1, 0#1, 0#1, 0#1⟩ ⟨30500#16, 20#6, 0#1, 0#1, 10#5, 0#2, 0#1, 15#5, 5#3, 3#4, 0#4, 24#7, 0#1⟩),
     wordOf .asduType [0x1F#8, 0x02#8, 0x01#8, 0x00#8, 0x02#8, 0x24#8, 0x77#8, 0x14#8, 0x0A#8, 0xAF#8, 0x03#8, 0x18#8] (.mDpTb1 258#24 ⟨2#2, 0#2, 0#1, 0#1, 0#1, 0#1⟩ ⟨30500#16, 20#6, 0#1, 0#1, 10#5, 0#2, 0#1, 15#5, 5#3, 3#4, 0#4, 24#7, 0#1⟩),
     wordOf .asduType [0x20#8, 0x02#8, 0x01#8, 0x00#8, 0xFD#8, 0x81#8, 0x24#8, 0x77#8, 0x14#8, 0x0A#8, 0xAF#8, 0x03#8, 0x18#8] (.mStTb1 258#24 ⟨125#7, 1#1⟩ ⟨1#1, 0#3, 0#1, 0#1, 0#1, 1#1⟩ ⟨30500#16, 20#6, 0#1, 0#1, 10#5, 0#2, 0#1, 15#5, 5#3, 3#4, 0#4, 24#7, 0#1⟩),
     wordOf .asduType [0x21#8, 0x02#8, 0x01#8, 0x00#8, 0x78#8, 0x56#8, 0x34#8, 0x12#8, 0x81#8, 0x24#8, 0x77#8, 0x14#8, 0x0A#8, 0xAF#8, 0x03#8, 0x18#8] (.mBoTb1 258#24 ⟨305419896#32⟩ ⟨1#1, 0#3, 0#1, 0#1, 0#1, 1#1⟩ ⟨30500#16, 20#6, 0#1, 0#1, 10#5, 0#2, 0#1, 15#5, 5#3, 3#4, 0#4, 24#7, 0#1⟩),
     wordOf .asduType [0x22#8, 0x02#8, 0x01#8, 0x00#8, 0x00#8, 0x40#8, 0x81#8, 0x24#8, 0x77#8, 0x14#8, 0x0A#8, 0xAF#8, 0x03#8, 0x18#8] (.mMeTd1 258#24 ⟨16384#16⟩ ⟨1#1, 0#3, 0#1, 0#1, 0#1, 1#1⟩ ⟨30500#16, 20#6, 0#1, 0#1, 10#5, 0#2, 0#1, 15#5, 5#3, 3#4, 0#4, 24#7, 0#1⟩),
     wordOf .asduType [0x23#8, 0x02#8, 0x01#8, 0x00#8, 0xFE#8, 0xFF#8, 0x81#8, 0x24#8, 0x77#8, 0x14#8, 0x0A#8, 0xAF#8, 0x03#8, 0x18#8] (.mMeTe1 258#24 ⟨65534#16⟩ ⟨1#1, 0#3, 0#1, 0#1, 0#1, 1#1⟩ ⟨30500#16, 20#6, 0#1, 0#1, 10#5, 0#2, 0#1, 15#5, 5#3, 3#4, 0#4, 24#7, 0#1⟩),
     wordOf .asduType [0x24#8, 0x02#8, 0x01#8, 0x00#8, 0x00#8, 0x00#8, 0x80#8, 0x3F#8, 0x81#8, 0x24#8, 0x77#8, 0x14#8, 0x0A#8, 0xAF#8, 0x03#8, 0x18#8] (.mMeTf1 258#24 ⟨1065353216#32⟩ ⟨1#1, 0#3, 0#1, 0#1, 0#1, 1#1⟩ ⟨30500#16, 20#6, 0#1, 0#1, 10#5, 0#2, 0#1, 15#5, 5#3, 3#4, 0#4, 24#7, 0#1⟩),
     wordOf .asduType [0x25#8, 0x02#8, 0x01#8, 0x00#8, 0xE8#8, 0x03#8, 0x00#8, 0x00#8, 0x25#8, 0x24#8, 0x77#8, 0x14#8, 0x0A#8, 0xAF#8, 0x03#8, 0x18#8] (.mItTb1 258#24 ⟨1000#32, 5#5, 1#1, 0#1, 0#1⟩ ⟨30500#16, 20#6, 0#1, 0#1, 10#5, 0#2, 0#1, 15#5, 5#3, 3#4, 0#4, 24#7, 0#1⟩),
     wordOf .asduType [0x26#8, 0x02#8, 0x01#8, 0x00#8, 0x0A#8, 0xE8#8, 0x03#8, 0x24#8, 0x77#8, 0x14#8, 0x0A#8, 0xAF#8, 0x03#8, 0x18#8] (.mEpTd1 258#24 ⟨2#2, 0#1, 1#1, 0#1, 0#1, 0#1, 0#1⟩ ⟨1000#16⟩ ⟨30500#16, 20#6, 0#1, 0#1, 10#5, 0#2, 0#1, 15#5, 5#3, 3#4, 0#4, 24#7, 0#1⟩),
     wordOf .asduType [0x27#8, 0x02#8, 0x01#8, 0x00#8, 0x05#8, 0x40#8, 0xE8#8, 0x03#8, 0x24#8, 0x77#8, 0x14#8, 0x0A#8, 0xAF#8, 0x03#8, 0x18#8] (.mEpTe1 258#24 ⟨1#1, 0#1, 1#1, 0#1, 0#1, 0#1, 0#2⟩ ⟨0#3, 0#1, 0#1, 0#1, 1#1, 0#1⟩ ⟨1000#16⟩ ⟨30500#16, 20#6, 0#1, 0#1, 10#5, 0#2, 0#1, 15#5, 5#3, 3#4, 0#4, 24#7, 0#1⟩),
     wordOf .asduType [0x28#8, 0x02#8, 0x01#8, 0x00#8, 0x03#8, 0x40#8, 0xE8#8, 0x03#8, 0x24#8, 0x77#8, 0x14#8, 0x0A#8, 0xAF#8, 0x03#8, 0x18#8] (.mEpTf1 258#24 ⟨1#1, 1#1, 0#1, 0#1, 0#4⟩ ⟨0#3, 0#1, 0#1, 0#1, 1#1, 0#1⟩ ⟨1000#16⟩ ⟨30500#16, 20#6, 0#1, 0#1, 10#5, 0#2, 0#1, 15#5, 5#3, 3#4, 0#4, 24#7, 0#1⟩),
     wordOf .asduType [0x2D#8, 0x02#8, 0x01#8, 0x00#8, 0x81#8] (.cScNa1 258#24 ⟨1#1, 0#1, 0#5, 1#1⟩),
     wordOf .asduType [0x2E#8, 0x02#8, 0x01#8, 0x00#8, 0x06#8] (.cDcNa1 258#24 ⟨2#2, 1#5, 0#1⟩),
     wordOf .asduType [0x2F#8, 0x02#8, 0x01#8, 0x00#8, 0x02#8] (.cRcNa1 258#24 ⟨2#2, 0#5, 0#1⟩),
     wordOf .asduType [0x30#8, 0x02#8, 0x01#8, 0x00#8, 0x00#8, 0x40#8, 0x80#8] (.cSeNa1 258#24 ⟨16384#16⟩ ⟨0#7, 1#1⟩),
     wordOf .asduType [0x31#8, 0x02#8, 0x01#8, 0x00#8, 0xFE#8, 0xFF#8, 0x80#8] (.cSeNb1 258#24 ⟨65534#16⟩ ⟨0#7, 1#1⟩),
     wordOf .asduType [0x32#8, 0x02#8, 0x01#8, 0x00#8, 0x00#8, 0x00#8, 0x80#8, 0x3F#8, 0x80#8] (.cSeNc1 258#24 ⟨1065353216#32⟩ ⟨0#7, 1#1⟩),
     wordOf .asduType [0x33#8, 0x02#8, 0x01#8, 0x00#8, 0x78#8, 0x56#8, 0x34#8, 0x12#8] (.cBoNa1 258#24 ⟨305419896#32⟩),
     wordOf .asduType [0x3A#8, 0x02#8, 0x01#8, 0x00#8, 0x81#8, 0x24#8, 0x77#8, 0x14#8, 0x0A#8, 0xAF#8, 0x03#8, 0x18#8] (.cScTa1 258#24 ⟨1#1, 0#1, 0#5, 1#1⟩ ⟨30500#16, 20#6, 0#1, 0#1, 10#5, 0#2, 0#1, 15#5, 5#3, 3#4, 0#4, 24#7, 0#1⟩)].all (fun b => b) = true := by decide +kernel

/-- 95_test_vectors.md section 2.2: type octet, then the element octets of the row. -/
theorem test_decode_types_c :
    [wordOf .asduType [0x3B#8, 0x02#8, 0x01#8, 0x00#8, 0x06#8, 0x24#8, 0x77#8, 0x14#8, 0x0A#8, 0xAF#8, 0x03#8, 0x18#8] (.cDcTa1 258#24 ⟨2#2, 1#5, 0#1⟩ ⟨30500#16, 20#6, 0#1, 0#1, 10#5, 0#2, 0#1, 15#5, 5#3, 3#4, 0#4, 24#7, 0#1⟩),
     wordOf .asduType [0x3C#8, 0x02#8, 0x01#8, 0x00#8, 0x02#8, 0x24#8, 0x77#8, 0x14#8, 0x0A#8, 0xAF#8, 0x03#8, 0x18#8] (.cRcTa1 258#24 ⟨2#2, 0#5, 0#1⟩ ⟨30500#16, 20#6, 0#1, 0#1, 10#5, 0#2, 0#1, 15#5, 5#3, 3#4, 0#4, 24#7, 0#1⟩),
     wordOf .asduType [0x3D#8, 0x02#8, 0x01#8, 0x00#8, 0x00#8, 0x40#8, 0x80#8, 0x24#8, 0x77#8, 0x14#8, 0x0A#8, 0xAF#8, 0x03#8, 0x18#8] (.cSeTa1 258#24 ⟨16384#16⟩ ⟨0#7, 1#1⟩ ⟨30500#16, 20#6, 0#1, 0#1, 10#5, 0#2, 0#1, 15#5, 5#3, 3#4, 0#4, 24#7, 0#1⟩),
     wordOf .asduType [0x3E#8, 0x02#8, 0x01#8, 0x00#8, 0xFE#8, 0xFF#8, 0x80#8, 0x24#8, 0x77#8, 0x14#8, 0x0A#8, 0xAF#8, 0x03#8, 0x18#8] (.cSeTb1 258#24 ⟨65534#16⟩ ⟨0#7, 1#1⟩ ⟨30500#16, 20#6, 0#1, 0#1, 10#5, 0#2, 0#1, 15#5, 5#3, 3#4, 0#4, 24#7, 0#1⟩),
     wordOf .asduType [0x3F#8, 0x02#8, 0x01#8, 0x00#8, 0x00#8, 0x00#8, 0x80#8, 0x3F#8, 0x80#8, 0x24#8, 0x77#8, 0x14#8, 0x0A#8, 0xAF#8, 0x03#8, 0x18#8] (.cSeTc1 258#24 ⟨1065353216#32⟩ ⟨0#7, 1#1⟩ ⟨30500#16, 20#6, 0#1, 0#1, 10#5, 0#2, 0#1, 15#5, 5#3, 3#4, 0#4, 24#7, 0#1⟩),
     wordOf .asduType [0x40#8, 0x02#8, 0x01#8, 0x00#8, 0x78#8, 0x56#8, 0x34#8, 0x12#8, 0x24#8, 0x77#8, 0x14#8, 0x0A#8, 0xAF#8, 0x03#8, 0x18#8] (.cBoTa1 258#24 ⟨305419896#32⟩ ⟨30500#16, 20#6, 0#1, 0#1, 10#5, 0#2, 0#1, 15#5, 5#3, 3#4, 0#4, 24#7, 0#1⟩),
     wordOf .asduType [0x46#8, 0x00#8, 0x00#8, 0x00#8, 0x02#8] (.mEiNa1 0#24 ⟨2#7, 0#1⟩),
     wordOf .asduType [0x64#8, 0x00#8, 0x00#8, 0x00#8, 0x14#8] (.cIcNa1 0#24 ⟨20#8⟩),
     wordOf .asduType [0x65#8, 0x00#8, 0x00#8, 0x00#8, 0x85#8] (.cCiNa1 0#24 ⟨5#6, 2#2⟩),
     wordOf .asduType [0x66#8, 0x02#8, 0x01#8, 0x00#8] (.cRdNa1 258#24),
     wordOf .asduType [0x67#8, 0x00#8, 0x00#8, 0x00#8, 0x24#8, 0x77#8, 0x14#8, 0x0A#8, 0xAF#8, 0x03#8, 0x18#8] (.cCsNa1 0#24 ⟨30500#16, 20#6, 0#1, 0#1, 10#5, 0#2, 0#1, 15#5, 5#3, 3#4, 0#4, 24#7, 0#1⟩),
     wordOf .asduType [0x68#8, 0x00#8, 0x00#8, 0x00#8, 0xAA#8, 0x55#8] (.cTsNa1 0#24 ⟨21930#16⟩),
     wordOf .asduType [0x69#8, 0x00#8, 0x00#8, 0x00#8, 0x01#8] (.cRpNa1 0#24 ⟨1#8⟩),
     wordOf .asduType [0x6A#8, 0x00#8, 0x00#8, 0x00#8, 0xE8#8, 0x03#8] (.cCdNa1 0#24 ⟨1000#16⟩),
     wordOf .asduType [0x6B#8, 0x00#8, 0x00#8, 0x00#8, 0x01#8, 0x00#8, 0x24#8, 0x77#8, 0x14#8, 0x0A#8, 0xAF#8, 0x03#8, 0x18#8] (.cTsTa1 0#24 ⟨1#16⟩ ⟨30500#16, 20#6, 0#1, 0#1, 10#5, 0#2, 0#1, 15#5, 5#3, 3#4, 0#4, 24#7, 0#1⟩),
     wordOf .asduType [0x6E#8, 0x02#8, 0x01#8, 0x00#8, 0x00#8, 0x40#8, 0x01#8] (.pMeNa1 258#24 ⟨16384#16⟩ ⟨1#6, 0#1, 0#1⟩),
     wordOf .asduType [0x6F#8, 0x02#8, 0x01#8, 0x00#8, 0xFE#8, 0xFF#8, 0x01#8] (.pMeNb1 258#24 ⟨65534#16⟩ ⟨1#6, 0#1, 0#1⟩),
     wordOf .asduType [0x70#8, 0x02#8, 0x01#8, 0x00#8, 0x00#8, 0x00#8, 0x80#8, 0x3F#8, 0x01#8] (.pMeNc1 258#24 ⟨1065353216#32⟩ ⟨1#6, 0#1, 0#1⟩),
     wordOf .asduType [0x71#8, 0x02#8, 0x01#8, 0x00#8, 0x03#8] (.pAcNa1 258#24 ⟨3#8⟩),
     wordOf .asduType [0x78#8, 0x02#8, 0x01#8, 0x00#8, 0x01#8, 0x00#8, 0x70#8, 0x11#8, 0x01#8, 0x00#8] (.fFrNa1 258#24 ⟨1#16⟩ ⟨70000#24⟩ ⟨0#7, 0#1⟩),
     wordOf .asduType [0x79#8, 0x02#8, 0x01#8, 0x00#8, 0x01#8, 0x00#8, 0x01#8, 0x70#8, 0x11#8, 0x01#8, 0x00#8] (.fSrNa1 258#24 ⟨1#16⟩ ⟨1#8⟩ ⟨70000#24⟩ ⟨0#7, 0#1⟩),
     wordOf .asduType [0x7A#8, 0x02#8, 0x01#8, 0x00#8, 0x01#8, 0x00#8, 0x01#8, 0x02#8] (.fScNa1 258#24 ⟨1#16⟩ ⟨1#8⟩ ⟨2#4, 0#4⟩),
     wordOf .asduType [0x7B#8, 0x02#8, 0x01#8, 0x00#8, 0x01#8, 0x00#8, 0x01#8, 0x01#8, 0xC6#8] (.fLsNa1 258#24 ⟨1#16⟩ ⟨1#8⟩ ⟨1#8⟩ ⟨198#8⟩),
     wordOf .asduType [0x7C#8, 0x02#8, 0x01#8, 0x00#8, 0x01#8, 0x00#8, 0x01#8, 0x01#8] (.fAfNa1 258#24 ⟨1#16⟩ ⟨1#8⟩ ⟨1#4, 0#4⟩),
     wordOf .asduType [0x7D#8, 0x02#8, 0x01#8, 0x00#8, 0x01#8, 0x00#8, 0x01#8, 0x03#8, 0x10#8, 0x20#8, 0x30#8] (.fSgNa1 258#24 ⟨1#16⟩ ⟨1#8⟩ [0x10#8, 0x20#8, 0x30#8]),
     wordOf .asduType [0x7E#8, 0x02#8, 0x01#8, 0x00#8, 0x01#8, 0x00#8, 0x70#8, 0x11#8, 0x01#8, 0x20#8, 0x24#8, 0x77#8, 0x14#8, 0x0A#8, 0xAF#8, 0x03#8, 0x18#8] (.fDrTa1 258#24 ⟨1#16⟩ ⟨70000#24⟩ ⟨0#5, 1#1, 0#1, 0#1⟩ ⟨30500#16, 20#6, 0#1, 0#1, 10#5, 0#2, 0#1, 15#5, 5#3, 3#4, 0#4, 24#7, 0#1⟩),
     wordOf .asduType [0x7F#8, 0x02#8, 0x01#8, 0x00#8, 0x01#8, 0x00#8, 0x00#8, 0x00#8, 0x00#8, 0x00#8, 0x21#8, 0x01#8, 0x18#8, 0x5F#8, 0xEA#8, 0x3B#8, 0x17#8, 0x7F#8, 0x01#8, 0x18#8] (.fScNb1 258#24 ⟨1#16⟩ ⟨0#16, 0#6, 0#1, 0#1, 0#5, 0#2, 0#1, 1#5, 1#3, 1#4, 0#4, 24#7, 0#1⟩ ⟨59999#16, 59#6, 0#1, 0#1, 23#5, 0#2, 0#1, 31#5, 3#3, 1#4, 0#4, 24#7, 0#1⟩)].all (fun b => b) = true := by decide +kernel

/-- 30_encoding.md R111. -/
theorem test_decode_apdus :
    [wordOf .apci [0x22#8, 0x01#8, 0x0A#8, 0x00#8, 0x02#8, 0x64#8, 0x01#8] (.iFrame 0x11#7 1#8 10#8 0#8 [0x64#8, 0x01#8]),
     wordOf .apci [0x01#8, 0x00#8, 0x14#8, 0x00#8, 0x00#8] (.sFrame 0#8 0x14#8 0#8 []),
     wordOf .apci [0x07#8, 0x00#8, 0x00#8, 0x00#8, 0x00#8] (.uStartdtAct 0#8 0#8 0#8 []),
     wordOf .apci [0x0B#8, 0x00#8, 0x00#8, 0x00#8, 0x00#8] (.uStartdtCon 0#8 0#8 0#8 []),
     wordOf .apci [0x13#8, 0x00#8, 0x00#8, 0x00#8, 0x00#8] (.uStopdtAct 0#8 0#8 0#8 []),
     wordOf .apci [0x23#8, 0x00#8, 0x00#8, 0x00#8, 0x00#8] (.uStopdtCon 0#8 0#8 0#8 []),
     wordOf .apci [0x43#8, 0x00#8, 0x00#8, 0x00#8, 0x00#8] (.uTestfrAct 0#8 0#8 0#8 []),
     wordOf .apci [0x83#8, 0x01#8, 0x02#8, 0x03#8, 0x00#8] (.uTestfrCon 1#8 2#8 3#8 [])].all (fun b => b) = true := by decide +kernel

/-- 30_encoding.md R112. -/
theorem test_decode_frames :
    [wordOf .ft12 [0x10#8, 0x04#8, 0x00#8, 0x49#8, 0x01#8, 0x4A#8, 0x16#8] (.ft12Fixed [0x49#8, 0x01#8, 0x4A#8, 0x16#8]),
     wordOf .ft12 [0x68#8, 0x02#8, 0x00#8, 0x09#8, 0x09#8] (.ft12Variable [0x09#8, 0x09#8]),
     wordOf .ft12 [0xE5#8, 0x00#8, 0x00#8] (.ft12Single [])].all (fun b => b) = true := by decide +kernel

/-- 45_ft12_link.md R361, R370 to R395: bit 7 set, bit 5 clear, bit 4 set. -/
theorem test_decode_controls :
    [wordOf .ctlUnbalanced [0xD0#8, 0x01#8, 0x05#8] (.unbPriResetRemoteLink 1#1 0#1 1#1 [5#8]),
     wordOf .ctlUnbalanced [0xD1#8, 0x01#8, 0x05#8] (.unbPriResetUserProcess 1#1 0#1 1#1 [5#8]),
     wordOf .ctlUnbalanced [0xD3#8, 0x01#8, 0x05#8, 0x02#8, 0xAA#8, 0xBB#8] (.unbPriUserDataConfirm 1#1 0#1 1#1 [5#8] [0xAA#8, 0xBB#8]),
     wordOf .ctlUnbalanced [0xD4#8, 0x01#8, 0x05#8, 0x02#8, 0xAA#8, 0xBB#8] (.unbPriUserDataNoReply 1#1 0#1 1#1 [5#8] [0xAA#8, 0xBB#8]),
     wordOf .ctlUnbalanced [0xD8#8, 0x01#8, 0x05#8] (.unbPriRequestAccessDemand 1#1 0#1 1#1 [5#8]),
     wordOf .ctlUnbalanced [0xD9#8, 0x01#8, 0x05#8] (.unbPriRequestLinkStatus 1#1 0#1 1#1 [5#8]),
     wordOf .ctlUnbalanced [0xDA#8, 0x01#8, 0x05#8] (.unbPriRequestClass1 1#1 0#1 1#1 [5#8]),
     wordOf .ctlUnbalanced [0xDB#8, 0x01#8, 0x05#8] (.unbPriRequestClass2 1#1 0#1 1#1 [5#8]),
     wordOf .ctlBalanced [0xD0#8, 0x01#8, 0x05#8] (.balPriResetRemoteLink 1#1 0#1 1#1 [5#8]),
     wordOf .ctlBalanced [0xD1#8, 0x01#8, 0x05#8] (.balPriResetUserProcess 1#1 0#1 1#1 [5#8]),
     wordOf .ctlBalanced [0xD2#8, 0x01#8, 0x05#8] (.balPriTestLink 1#1 0#1 1#1 [5#8]),
     wordOf .ctlBalanced [0xD3#8, 0x01#8, 0x05#8, 0x02#8, 0xAA#8, 0xBB#8] (.balPriUserDataConfirm 1#1 0#1 1#1 [5#8] [0xAA#8, 0xBB#8]),
     wordOf .ctlBalanced [0xD4#8, 0x01#8, 0x05#8, 0x02#8, 0xAA#8, 0xBB#8] (.balPriUserDataNoReply 1#1 0#1 1#1 [5#8] [0xAA#8, 0xBB#8]),
     wordOf .ctlBalanced [0xD9#8, 0x01#8, 0x05#8] (.balPriRequestLinkStatus 1#1 0#1 1#1 [5#8]),
     wordOf .ctlUnbalanced [0x90#8, 0x01#8, 0x05#8] (.unbSecAck 1#1 0#1 1#1 [5#8]),
     wordOf .ctlUnbalanced [0x91#8, 0x01#8, 0x05#8] (.unbSecNackBusy 1#1 0#1 1#1 [5#8]),
     wordOf .ctlUnbalanced [0x98#8, 0x01#8, 0x05#8, 0x02#8, 0xAA#8, 0xBB#8] (.unbSecUserData 1#1 0#1 1#1 [5#8] [0xAA#8, 0xBB#8]),
     wordOf .ctlUnbalanced [0x99#8, 0x01#8, 0x05#8] (.unbSecNackNoData 1#1 0#1 1#1 [5#8]),
     wordOf .ctlUnbalanced [0x9B#8, 0x01#8, 0x05#8] (.unbSecLinkStatus 1#1 0#1 1#1 [5#8]),
     wordOf .ctlUnbalanced [0x9E#8, 0x01#8, 0x05#8] (.unbSecLinkNotFunctioning 1#1 0#1 1#1 [5#8]),
     wordOf .ctlUnbalanced [0x9F#8, 0x01#8, 0x05#8] (.unbSecLinkNotImplemented 1#1 0#1 1#1 [5#8]),
     wordOf .ctlBalanced [0x90#8, 0x01#8, 0x05#8] (.balSecAck 1#1 0#1 1#1 [5#8]),
     wordOf .ctlBalanced [0x91#8, 0x01#8, 0x05#8] (.balSecNackBusy 1#1 0#1 1#1 [5#8]),
     wordOf .ctlBalanced [0x9B#8, 0x01#8, 0x05#8] (.balSecLinkStatus 1#1 0#1 1#1 [5#8]),
     wordOf .ctlBalanced [0x9E#8, 0x01#8, 0x05#8] (.balSecLinkNotFunctioning 1#1 0#1 1#1 [5#8]),
     wordOf .ctlBalanced [0x9F#8, 0x01#8, 0x05#8] (.balSecLinkNotImplemented 1#1 0#1 1#1 [5#8])].all (fun b => b) = true := by decide +kernel

theorem test_decode_unassigned : decode .command [0x50#8] = .error (.unassigned 0x50#8) ∧
    decode .apci [0x03#8, 0#8] = .error (.unassigned 0x03#8) ∧ decode .asduType [22#8] = .error (.unassigned 22#8) ∧
    decode .ctlUnbalanced [0x42#8] = .error (.unassigned 0x42#8) := ⟨rfl, rfl, rfl, rfl⟩

theorem test_decode_malformed : decode .command [0x16#8, 3#8, 2#8] = .error .malformed ∧
    decode .command [0x33#8, 6#8] = .error .malformed ∧ decode .command [] = .error .noOctets := ⟨rfl, rfl, rfl⟩

theorem test_table_word_runs_first : gives (step (State.reset.withFetchWord 8 0x01)) (fun t => t.status) 0xFE#8 = true := by
  decide +kernel

/-! ## One step of every instruction -/

/-- 70_reset_and_hazards.md R540, R541: the examples. -/
theorem test_system : gives (exec .nop base) (fun t => t) base = true ∧
    gives (exec .nop State.reset) (fun t => t) { State.reset with status := 0xFD#8 } = true ∧
    gives (exec (.reset op104) State.reset) (fun t => t) base = true ∧
    gives (exec (.reset { op104 with k := 0#16 }) State.reset) (fun t => (t.config, t.status)) (none, 0xFE#8) = true := by
  decide +kernel

/-- 44_asdu_codec.md R320 to R323: the examples. -/
theorem test_asdu_builder :
    [gives (exec (.asduBegin false false false 6#8 0#8 1#16) base) (fun t => (Mem.read t.abuf 0 6, t.builder.len)) ([0x00#8, 0x00#8, 0x06#8, 0x00#8, 0x01#8, 0x00#8], 6#8),
     gives (exec (.asduBegin false false false 64#8 0#8 1#16) base) (fun t => (t.status, t.statusInfo)) (0x08#8, 64#16),
     gives (exec (.asduAddIo ⟨100#8, 0#32, .std .cIcNa1 [20#64]⟩) building) (fun t => (Mem.read t.abuf 0 10, t.builder.len))
      ([0x64#8, 0x01#8, 0x03#8, 0x00#8, 0x01#8, 0x00#8, 0x00#8, 0x00#8, 0x00#8, 0x14#8], 10#8),
     gives (exec (.asduAddIo ⟨6#8, 0#32, .std .mStTa1 [64#64, 0#64, 0#64, 0#64, 0#64, 0#64, 0#64, 0#64, 0#64, 0#64, 0#64, 0#64]⟩) building)
      (fun t => (t.status, t.statusInfo)) (0x08#8, 1#16),
     gives (exec (.asduSetRaw 200#8 1#8 [0x01#8, 0x00#8, 0x00#8, 0xAB#8]) building) (fun t => (Mem.read t.abuf 0 10, t.builder.len))
      ([0xC8#8, 0x01#8, 0x03#8, 0x00#8, 0x01#8, 0x00#8, 0x01#8, 0x00#8, 0x00#8, 0xAB#8], 10#8),
     gives (exec .asduEncode { building with builder.type := some 1#8, builder.count := 1#7, builder.len := 10#8 })
      (fun t => (t.asduLen, t.builder.active)) (10#8, true),
     gives (exec .asduEncode building) (fun t => t.status) 0x0F#8].all (fun b => b) = true := by decide +kernel

/-- RXBUF with the ASDU of the example of 44_asdu_codec.md R324, at offset 0. -/
def received : State := holding [0x64#8, 0x01#8, 0x06#8, 0x00#8, 0x01#8, 0x00#8, 0x00#8, 0x00#8, 0x00#8, 0x14#8]

/-- The view of it. -/
def viewed : State := stateOf (exec (.asduDecode 0#16 10#16) received)

/-- 44_asdu_codec.md R324 to R326: the examples. -/
theorem test_asdu_view :
    [gives (exec (.asduDecode 0#16 10#16) received)
      (fun t => (t.view.hdr.type, t.view.hdr.count, t.view.hdr.cot, t.view.hdr.ca, t.view.len, t.view.psize))
      (100#8, 1#7, 6#6, 1#16, 10#16, .fixed 1#8),
     gives (exec (.asduDecode 0#16 9#16) received) (fun t => (t.status, t.statusInfo, t.view.valid)) (0x01#8, 10#16, false),
     gives (exec (.asduGetElement 0#8) viewed) (fun t => (t.elem.io, t.status)) (⟨100#8, 0#24, .cIcNa1 ⟨20#8⟩⟩, 0x00#8),
     gives (exec (.asduGetElement 1#8) viewed) (fun t => (t.status, t.statusInfo)) (0x0C#8, 1#16),
     gives (exec (.asduRewriteCot 7#8 false) viewed) (fun t => (Mem.read t.abuf 0 10, t.asduLen))
      ([0x64#8, 0x01#8, 0x07#8, 0x00#8, 0x01#8, 0x00#8, 0x00#8, 0x00#8, 0x00#8, 0x14#8], 10#8),
     gives (exec (.asduRewriteCot 44#8 true) viewed) (fun t => t.octetAt .abuf 2) 0x6C#8].all (fun b => b) = true := by decide +kernel

/-- An instruction of a type row under a new builder leaves type and VSQ octet, and the element octets after the
header. -/
def adds (i : Instr) (front element : List Byte) : Bool :=
  gives (exec i building) (fun t => (t.status, Mem.read t.abuf 0 2, Mem.read t.abuf 6 element.length, t.builder.len.toNat))
    (0x00#8, front, element, 6 + element.length)

/-- 95_test_vectors.md section 2.2. -/
theorem test_types_a :
    [adds (.mSpNa1 258#24 ⟨1#1, 0#3, 0#1, 0#1, 0#1, 0#1⟩) [0x01#8, 0x01#8] [0x02#8, 0x01#8, 0x00#8, 0x01#8],
     adds (.mSpTa1 258#24 ⟨1#1, 0#3, 0#1, 0#1, 0#1, 0#1⟩ ⟨12345#16, 34#6, 0#1, 0#1⟩) [0x02#8, 0x01#8] [0x02#8, 0x01#8, 0x00#8, 0x01#8, 0x39#8, 0x30#8, 0x22#8],
     adds (.mDpNa1 258#24 ⟨2#2, 0#2, 0#1, 0#1, 0#1, 0#1⟩) [0x03#8, 0x01#8] [0x02#8, 0x01#8, 0x00#8, 0x02#8],
     adds (.mDpTa1 258#24 ⟨2#2, 0#2, 0#1, 0#1, 0#1, 0#1⟩ ⟨12345#16, 34#6, 0#1, 0#1⟩) [0x04#8, 0x01#8] [0x02#8, 0x01#8, 0x00#8, 0x02#8, 0x39#8, 0x30#8, 0x22#8],
     adds (.mStNa1 258#24 ⟨125#7, 1#1⟩ ⟨1#1, 0#3, 0#1, 0#1, 0#1, 1#1⟩) [0x05#8, 0x01#8] [0x02#8, 0x01#8, 0x00#8, 0xFD#8, 0x81#8],
     adds (.mStTa1 258#24 ⟨125#7, 1#1⟩ ⟨1#1, 0#3, 0#1, 0#1, 0#1, 1#1⟩ ⟨12345#16, 34#6, 0#1, 0#1⟩) [0x06#8, 0x01#8] [0x02#8, 0x01#8, 0x00#8, 0xFD#8, 0x81#8, 0x39#8, 0x30#8, 0x22#8],
     adds (.mBoNa1 258#24 ⟨305419896#32⟩ ⟨1#1, 0#3, 0#1, 0#1, 0#1, 1#1⟩) [0x07#8, 0x01#8] [0x02#8, 0x01#8, 0x00#8, 0x78#8, 0x56#8, 0x34#8, 0x12#8, 0x81#8],
     adds (.mBoTa1 258#24 ⟨305419896#32⟩ ⟨1#1, 0#3, 0#1, 0#1, 0#1, 1#1⟩ ⟨12345#16, 34#6, 0#1, 0#1⟩) [0x08#8, 0x01#8] [0x02#8, 0x01#8, 0x00#8, 0x78#8, 0x56#8, 0x34#8, 0x12#8, 0x81#8, 0x39#8, 0x30#8, 0x22#8],
     adds (.mMeNa1 258#24 ⟨16384#16⟩ ⟨1#1, 0#3, 0#1, 0#1, 0#1, 1#1⟩) [0x09#8, 0x01#8] [0x02#8, 0x01#8, 0x00#8, 0x00#8, 0x40#8, 0x81#8],
     adds (.mMeTa1 258#24 ⟨16384#16⟩ ⟨1#1, 0#3, 0#1, 0#1, 0#1, 1#1⟩ ⟨12345#16, 34#6, 0#1, 0#1⟩) [0x0A#8, 0x01#8] [0x02#8, 0x01#8, 0x00#8, 0x00#8, 0x40#8, 0x81#8, 0x39#8, 0x30#8, 0x22#8],
     adds (.mMeNb1 258#24 ⟨65534#16⟩ ⟨1#1, 0#3, 0#1, 0#1, 0#1, 1#1⟩) [0x0B#8, 0x01#8] [0x02#8, 0x01#8, 0x00#8, 0xFE#8, 0xFF#8, 0x81#8],
     adds (.mMeTb1 258#24 ⟨65534#16⟩ ⟨1#1, 0#3, 0#1, 0#1, 0#1, 1#1⟩ ⟨12345#16, 34#6, 0#1, 0#1⟩) [0x0C#8, 0x01#8] [0x02#8, 0x01#8, 0x00#8, 0xFE#8, 0xFF#8, 0x81#8, 0x39#8, 0x30#8, 0x22#8],
     adds (.mMeNc1 258#24 ⟨1065353216#32⟩ ⟨1#1, 0#3, 0#1, 0#1, 0#1, 1#1⟩) [0x0D#8, 0x01#8] [0x02#8, 0x01#8, 0x00#8, 0x00#8, 0x00#8, 0x80#8, 0x3F#8, 0x81#8],
     adds (.mMeTc1 258#24 ⟨1065353216#32⟩ ⟨1#1, 0#3, 0#1, 0#1, 0#1, 1#1⟩ ⟨12345#16, 34#6, 0#1, 0#1⟩) [0x0E#8, 0x01#8] [0x02#8, 0x01#8, 0x00#8, 0x00#8, 0x00#8, 0x80#8, 0x3F#8, 0x81#8, 0x39#8, 0x30#8, 0x22#8],
     adds (.mItNa1 258#24 ⟨1000#32, 5#5, 1#1, 0#1, 0#1⟩) [0x0F#8, 0x01#8] [0x02#8, 0x01#8, 0x00#8, 0xE8#8, 0x03#8, 0x00#8, 0x00#8, 0x25#8],
     adds (.mItTa1 258#24 ⟨1000#32, 5#5, 1#1, 0#1, 0#1⟩ ⟨12345#16, 34#6, 0#1, 0#1⟩) [0x10#8, 0x01#8] [0x02#8, 0x01#8, 0x00#8, 0xE8#8, 0x03#8, 0x00#8, 0x00#8, 0x25#8, 0x39#8, 0x30#8, 0x22#8],
     adds (.mEpTa1 258#24 ⟨2#2, 0#1, 1#1, 0#1, 0#1, 0#1, 0#1⟩ ⟨1000#16⟩ ⟨12345#16, 34#6, 0#1, 0#1⟩) [0x11#8, 0x01#8] [0x02#8, 0x01#8, 0x00#8, 0x0A#8, 0xE8#8, 0x03#8, 0x39#8, 0x30#8, 0x22#8],
     adds (.mEpTb1 258#24 ⟨1#1, 0#1, 1#1, 0#1, 0#1, 0#1, 0#2⟩ ⟨0#3, 0#1, 0#1, 0#1, 1#1, 0#1⟩ ⟨1000#16⟩ ⟨12345#16, 34#6, 0#1, 0#1⟩) [0x12#8, 0x01#8] [0x02#8, 0x01#8, 0x00#8, 0x05#8, 0x40#8, 0xE8#8, 0x03#8, 0x39#8, 0x30#8, 0x22#8],
     adds (.mEpTc1 258#24 ⟨1#1, 1#1, 0#1, 0#1, 0#4⟩ ⟨0#3, 0#1, 0#1, 0#1, 1#1, 0#1⟩ ⟨1000#16⟩ ⟨12345#16, 34#6, 0#1, 0#1⟩) [0x13#8, 0x01#8] [0x02#8, 0x01#8, 0x00#8, 0x03#8, 0x40#8, 0xE8#8, 0x03#8, 0x39#8, 0x30#8, 0x22#8],
     adds (.mPsNa1 258#24 ⟨1#16, 32768#16⟩ ⟨1#1, 0#3, 0#1, 0#1, 0#1, 1#1⟩) [0x14#8, 0x01#8] [0x02#8, 0x01#8, 0x00#8, 0x01#8, 0x00#8, 0x00#8, 0x80#8, 0x81#8],
     adds (.mMeNd1 258#24 ⟨16384#16⟩) [0x15#8, 0x01#8] [0x02#8, 0x01#8, 0x00#8, 0x00#8, 0x40#8]].all (fun b => b) = true := by decide +kernel

/-- 95_test_vectors.md section 2.2. -/
theorem test_types_b :
    [adds (.mSpTb1 258#24 ⟨1#1, 0#3, 0#1, 0#1, 0#1, 0#1⟩ ⟨30500#16, 20#6, 0#1, 0#1, 10#5, 0#2, 0#1, 15#5, 5#3, 3#4, 0#4, 24#7, 0#1⟩) [0x1E#8, 0x01#8] [0x02#8, 0x01#8, 0x00#8, 0x01#8, 0x24#8, 0x77#8, 0x14#8, 0x0A#8, 0xAF#8, 0x03#8, 0x18#8],
     adds (.mDpTb1 258#24 ⟨2#2, 0#2, 0#1, 0#1, 0#1, 0#1⟩ ⟨30500#16, 20#6, 0#1, 0#1, 10#5, 0#2, 0#1, 15#5, 5#3, 3#4, 0#4, 24#7, 0#1⟩) [0x1F#8, 0x01#8] [0x02#8, 0x01#8, 0x00#8, 0x02#8, 0x24#8, 0x77#8, 0x14#8, 0x0A#8, 0xAF#8, 0x03#8, 0x18#8],
     adds (.mStTb1 258#24 ⟨125#7, 1#1⟩ ⟨1#1, 0#3, 0#1, 0#1, 0#1, 1#1⟩ ⟨30500#16, 20#6, 0#1, 0#1, 10#5, 0#2, 0#1, 15#5, 5#3, 3#4, 0#4, 24#7, 0#1⟩) [0x20#8, 0x01#8] [0x02#8, 0x01#8, 0x00#8, 0xFD#8, 0x81#8, 0x24#8, 0x77#8, 0x14#8, 0x0A#8, 0xAF#8, 0x03#8, 0x18#8],
     adds (.mBoTb1 258#24 ⟨305419896#32⟩ ⟨1#1, 0#3, 0#1, 0#1, 0#1, 1#1⟩ ⟨30500#16, 20#6, 0#1, 0#1, 10#5, 0#2, 0#1, 15#5, 5#3, 3#4, 0#4, 24#7, 0#1⟩) [0x21#8, 0x01#8] [0x02#8, 0x01#8, 0x00#8, 0x78#8, 0x56#8, 0x34#8, 0x12#8, 0x81#8, 0x24#8, 0x77#8, 0x14#8, 0x0A#8, 0xAF#8, 0x03#8, 0x18#8],
     adds (.mMeTd1 258#24 ⟨16384#16⟩ ⟨1#1, 0#3, 0#1, 0#1, 0#1, 1#1⟩ ⟨30500#16, 20#6, 0#1, 0#1, 10#5, 0#2, 0#1, 15#5, 5#3, 3#4, 0#4, 24#7, 0#1⟩) [0x22#8, 0x01#8] [0x02#8, 0x01#8, 0x00#8, 0x00#8, 0x40#8, 0x81#8, 0x24#8, 0x77#8, 0x14#8, 0x0A#8, 0xAF#8, 0x03#8, 0x18#8],
     adds (.mMeTe1 258#24 ⟨65534#16⟩ ⟨1#1, 0#3, 0#1, 0#1, 0#1, 1#1⟩ ⟨30500#16, 20#6, 0#1, 0#1, 10#5, 0#2, 0#1, 15#5, 5#3, 3#4, 0#4, 24#7, 0#1⟩) [0x23#8, 0x01#8] [0x02#8, 0x01#8, 0x00#8, 0xFE#8, 0xFF#8, 0x81#8, 0x24#8, 0x77#8, 0x14#8, 0x0A#8, 0xAF#8, 0x03#8, 0x18#8],
     adds (.mMeTf1 258#24 ⟨1065353216#32⟩ ⟨1#1, 0#3, 0#1, 0#1, 0#1, 1#1⟩ ⟨30500#16, 20#6, 0#1, 0#1, 10#5, 0#2, 0#1, 15#5, 5#3, 3#4, 0#4, 24#7, 0#1⟩) [0x24#8, 0x01#8] [0x02#8, 0x01#8, 0x00#8, 0x00#8, 0x00#8, 0x80#8, 0x3F#8, 0x81#8, 0x24#8, 0x77#8, 0x14#8, 0x0A#8, 0xAF#8, 0x03#8, 0x18#8],
     adds (.mItTb1 258#24 ⟨1000#32, 5#5, 1#1, 0#1, 0#1⟩ ⟨30500#16, 20#6, 0#1, 0#1, 10#5, 0#2, 0#1, 15#5, 5#3, 3#4, 0#4, 24#7, 0#1⟩) [0x25#8, 0x01#8] [0x02#8, 0x01#8, 0x00#8, 0xE8#8, 0x03#8, 0x00#8, 0x00#8, 0x25#8, 0x24#8, 0x77#8, 0x14#8, 0x0A#8, 0xAF#8, 0x03#8, 0x18#8],
     adds (.mEpTd1 258#24 ⟨2#2, 0#1, 1#1, 0#1, 0#1, 0#1, 0#1⟩ ⟨1000#16⟩ ⟨30500#16, 20#6, 0#1, 0#1, 10#5, 0#2, 0#1, 15#5, 5#3, 3#4, 0#4, 24#7, 0#1⟩) [0x26#8, 0x01#8] [0x02#8, 0x01#8, 0x00#8, 0x0A#8, 0xE8#8, 0x03#8, 0x24#8, 0x77#8, 0x14#8, 0x0A#8, 0xAF#8, 0x03#8, 0x18#8],
     adds (.mEpTe1 258#24 ⟨1#1, 0#1, 1#1, 0#1, 0#1, 0#1, 0#2⟩ ⟨0#3, 0#1, 0#1, 0#1, 1#1, 0#1⟩ ⟨1000#16⟩ ⟨30500#16, 20#6, 0#1, 0#1, 10#5, 0#2, 0#1, 15#5, 5#3, 3#4, 0#4, 24#7, 0#1⟩) [0x27#8, 0x01#8] [0x02#8, 0x01#8, 0x00#8, 0x05#8, 0x40#8, 0xE8#8, 0x03#8, 0x24#8, 0x77#8, 0x14#8, 0x0A#8, 0xAF#8, 0x03#8, 0x18#8],
     adds (.mEpTf1 258#24 ⟨1#1, 1#1, 0#1, 0#1, 0#4⟩ ⟨0#3, 0#1, 0#1, 0#1, 1#1, 0#1⟩ ⟨1000#16⟩ ⟨30500#16, 20#6, 0#1, 0#1, 10#5, 0#2, 0#1, 15#5, 5#3, 3#4, 0#4, 24#7, 0#1⟩) [0x28#8, 0x01#8] [0x02#8, 0x01#8, 0x00#8, 0x03#8, 0x40#8, 0xE8#8, 0x03#8, 0x24#8, 0x77#8, 0x14#8, 0x0A#8, 0xAF#8, 0x03#8, 0x18#8],
     adds (.cScNa1 258#24 ⟨1#1, 0#1, 0#5, 1#1⟩) [0x2D#8, 0x01#8] [0x02#8, 0x01#8, 0x00#8, 0x81#8],
     adds (.cDcNa1 258#24 ⟨2#2, 1#5, 0#1⟩) [0x2E#8, 0x01#8] [0x02#8, 0x01#8, 0x00#8, 0x06#8],
     adds (.cRcNa1 258#24 ⟨2#2, 0#5, 0#1⟩) [0x2F#8, 0x01#8] [0x02#8, 0x01#8, 0x00#8, 0x02#8],
     adds (.cSeNa1 258#24 ⟨16384#16⟩ ⟨0#7, 1#1⟩) [0x30#8, 0x01#8] [0x02#8, 0x01#8, 0x00#8, 0x00#8, 0x40#8, 0x80#8],
     adds (.cSeNb1 258#24 ⟨65534#16⟩ ⟨0#7, 1#1⟩) [0x31#8, 0x01#8] [0x02#8, 0x01#8, 0x00#8, 0xFE#8, 0xFF#8, 0x80#8],
     adds (.cSeNc1 258#24 ⟨1065353216#32⟩ ⟨0#7, 1#1⟩) [0x32#8, 0x01#8] [0x02#8, 0x01#8, 0x00#8, 0x00#8, 0x00#8, 0x80#8, 0x3F#8, 0x80#8],
     adds (.cBoNa1 258#24 ⟨305419896#32⟩) [0x33#8, 0x01#8] [0x02#8, 0x01#8, 0x00#8, 0x78#8, 0x56#8, 0x34#8, 0x12#8],
     adds (.cScTa1 258#24 ⟨1#1, 0#1, 0#5, 1#1⟩ ⟨30500#16, 20#6, 0#1, 0#1, 10#5, 0#2, 0#1, 15#5, 5#3, 3#4, 0#4, 24#7, 0#1⟩) [0x3A#8, 0x01#8] [0x02#8, 0x01#8, 0x00#8, 0x81#8, 0x24#8, 0x77#8, 0x14#8, 0x0A#8, 0xAF#8, 0x03#8, 0x18#8]].all (fun b => b) = true := by decide +kernel

/-- 95_test_vectors.md section 2.2. -/
theorem test_types_c :
    [adds (.cDcTa1 258#24 ⟨2#2, 1#5, 0#1⟩ ⟨30500#16, 20#6, 0#1, 0#1, 10#5, 0#2, 0#1, 15#5, 5#3, 3#4, 0#4, 24#7, 0#1⟩) [0x3B#8, 0x01#8] [0x02#8, 0x01#8, 0x00#8, 0x06#8, 0x24#8, 0x77#8, 0x14#8, 0x0A#8, 0xAF#8, 0x03#8, 0x18#8],
     adds (.cRcTa1 258#24 ⟨2#2, 0#5, 0#1⟩ ⟨30500#16, 20#6, 0#1, 0#1, 10#5, 0#2, 0#1, 15#5, 5#3, 3#4, 0#4, 24#7, 0#1⟩) [0x3C#8, 0x01#8] [0x02#8, 0x01#8, 0x00#8, 0x02#8, 0x24#8, 0x77#8, 0x14#8, 0x0A#8, 0xAF#8, 0x03#8, 0x18#8],
     adds (.cSeTa1 258#24 ⟨16384#16⟩ ⟨0#7, 1#1⟩ ⟨30500#16, 20#6, 0#1, 0#1, 10#5, 0#2, 0#1, 15#5, 5#3, 3#4, 0#4, 24#7, 0#1⟩) [0x3D#8, 0x01#8] [0x02#8, 0x01#8, 0x00#8, 0x00#8, 0x40#8, 0x80#8, 0x24#8, 0x77#8, 0x14#8, 0x0A#8, 0xAF#8, 0x03#8, 0x18#8],
     adds (.cSeTb1 258#24 ⟨65534#16⟩ ⟨0#7, 1#1⟩ ⟨30500#16, 20#6, 0#1, 0#1, 10#5, 0#2, 0#1, 15#5, 5#3, 3#4, 0#4, 24#7, 0#1⟩) [0x3E#8, 0x01#8] [0x02#8, 0x01#8, 0x00#8, 0xFE#8, 0xFF#8, 0x80#8, 0x24#8, 0x77#8, 0x14#8, 0x0A#8, 0xAF#8, 0x03#8, 0x18#8],
     adds (.cSeTc1 258#24 ⟨1065353216#32⟩ ⟨0#7, 1#1⟩ ⟨30500#16, 20#6, 0#1, 0#1, 10#5, 0#2, 0#1, 15#5, 5#3, 3#4, 0#4, 24#7, 0#1⟩) [0x3F#8, 0x01#8] [0x02#8, 0x01#8, 0x00#8, 0x00#8, 0x00#8, 0x80#8, 0x3F#8, 0x80#8, 0x24#8, 0x77#8, 0x14#8, 0x0A#8, 0xAF#8, 0x03#8, 0x18#8],
     adds (.cBoTa1 258#24 ⟨305419896#32⟩ ⟨30500#16, 20#6, 0#1, 0#1, 10#5, 0#2, 0#1, 15#5, 5#3, 3#4, 0#4, 24#7, 0#1⟩) [0x40#8, 0x01#8] [0x02#8, 0x01#8, 0x00#8, 0x78#8, 0x56#8, 0x34#8, 0x12#8, 0x24#8, 0x77#8, 0x14#8, 0x0A#8, 0xAF#8, 0x03#8, 0x18#8],
     adds (.mEiNa1 0#24 ⟨2#7, 0#1⟩) [0x46#8, 0x01#8] [0x00#8, 0x00#8, 0x00#8, 0x02#8],
     adds (.cIcNa1 0#24 ⟨20#8⟩) [0x64#8, 0x01#8] [0x00#8, 0x00#8, 0x00#8, 0x14#8],
     adds (.cCiNa1 0#24 ⟨5#6, 2#2⟩) [0x65#8, 0x01#8] [0x00#8, 0x00#8, 0x00#8, 0x85#8],
     adds (.cRdNa1 258#24) [0x66#8, 0x01#8] [0x02#8, 0x01#8, 0x00#8],
     adds (.cCsNa1 0#24 ⟨30500#16, 20#6, 0#1, 0#1, 10#5, 0#2, 0#1, 15#5, 5#3, 3#4, 0#4, 24#7, 0#1⟩) [0x67#8, 0x01#8] [0x00#8, 0x00#8, 0x00#8, 0x24#8, 0x77#8, 0x14#8, 0x0A#8, 0xAF#8, 0x03#8, 0x18#8],
     adds (.cTsNa1 0#24 ⟨21930#16⟩) [0x68#8, 0x01#8] [0x00#8, 0x00#8, 0x00#8, 0xAA#8, 0x55#8],
     adds (.cRpNa1 0#24 ⟨1#8⟩) [0x69#8, 0x01#8] [0x00#8, 0x00#8, 0x00#8, 0x01#8],
     adds (.cCdNa1 0#24 ⟨1000#16⟩) [0x6A#8, 0x01#8] [0x00#8, 0x00#8, 0x00#8, 0xE8#8, 0x03#8],
     adds (.cTsTa1 0#24 ⟨1#16⟩ ⟨30500#16, 20#6, 0#1, 0#1, 10#5, 0#2, 0#1, 15#5, 5#3, 3#4, 0#4, 24#7, 0#1⟩) [0x6B#8, 0x01#8] [0x00#8, 0x00#8, 0x00#8, 0x01#8, 0x00#8, 0x24#8, 0x77#8, 0x14#8, 0x0A#8, 0xAF#8, 0x03#8, 0x18#8],
     adds (.pMeNa1 258#24 ⟨16384#16⟩ ⟨1#6, 0#1, 0#1⟩) [0x6E#8, 0x01#8] [0x02#8, 0x01#8, 0x00#8, 0x00#8, 0x40#8, 0x01#8],
     adds (.pMeNb1 258#24 ⟨65534#16⟩ ⟨1#6, 0#1, 0#1⟩) [0x6F#8, 0x01#8] [0x02#8, 0x01#8, 0x00#8, 0xFE#8, 0xFF#8, 0x01#8],
     adds (.pMeNc1 258#24 ⟨1065353216#32⟩ ⟨1#6, 0#1, 0#1⟩) [0x70#8, 0x01#8] [0x02#8, 0x01#8, 0x00#8, 0x00#8, 0x00#8, 0x80#8, 0x3F#8, 0x01#8],
     adds (.pAcNa1 258#24 ⟨3#8⟩) [0x71#8, 0x01#8] [0x02#8, 0x01#8, 0x00#8, 0x03#8],
     adds (.fFrNa1 258#24 ⟨1#16⟩ ⟨70000#24⟩ ⟨0#7, 0#1⟩) [0x78#8, 0x01#8] [0x02#8, 0x01#8, 0x00#8, 0x01#8, 0x00#8, 0x70#8, 0x11#8, 0x01#8, 0x00#8],
     adds (.fSrNa1 258#24 ⟨1#16⟩ ⟨1#8⟩ ⟨70000#24⟩ ⟨0#7, 0#1⟩) [0x79#8, 0x01#8] [0x02#8, 0x01#8, 0x00#8, 0x01#8, 0x00#8, 0x01#8, 0x70#8, 0x11#8, 0x01#8, 0x00#8],
     adds (.fScNa1 258#24 ⟨1#16⟩ ⟨1#8⟩ ⟨2#4, 0#4⟩) [0x7A#8, 0x01#8] [0x02#8, 0x01#8, 0x00#8, 0x01#8, 0x00#8, 0x01#8, 0x02#8],
     adds (.fLsNa1 258#24 ⟨1#16⟩ ⟨1#8⟩ ⟨1#8⟩ ⟨198#8⟩) [0x7B#8, 0x01#8] [0x02#8, 0x01#8, 0x00#8, 0x01#8, 0x00#8, 0x01#8, 0x01#8, 0xC6#8],
     adds (.fAfNa1 258#24 ⟨1#16⟩ ⟨1#8⟩ ⟨1#4, 0#4⟩) [0x7C#8, 0x01#8] [0x02#8, 0x01#8, 0x00#8, 0x01#8, 0x00#8, 0x01#8, 0x01#8],
     adds (.fSgNa1 258#24 ⟨1#16⟩ ⟨1#8⟩ [0x10#8, 0x20#8, 0x30#8]) [0x7D#8, 0x01#8] [0x02#8, 0x01#8, 0x00#8, 0x01#8, 0x00#8, 0x01#8, 0x03#8, 0x10#8, 0x20#8, 0x30#8],
     adds (.fDrTa1 258#24 ⟨1#16⟩ ⟨70000#24⟩ ⟨0#5, 1#1, 0#1, 0#1⟩ ⟨30500#16, 20#6, 0#1, 0#1, 10#5, 0#2, 0#1, 15#5, 5#3, 3#4, 0#4, 24#7, 0#1⟩) [0x7E#8, 0x01#8] [0x02#8, 0x01#8, 0x00#8, 0x01#8, 0x00#8, 0x70#8, 0x11#8, 0x01#8, 0x20#8, 0x24#8, 0x77#8, 0x14#8, 0x0A#8, 0xAF#8, 0x03#8, 0x18#8],
     adds (.fScNb1 258#24 ⟨1#16⟩ ⟨0#16, 0#6, 0#1, 0#1, 0#5, 0#2, 0#1, 1#5, 1#3, 1#4, 0#4, 24#7, 0#1⟩ ⟨59999#16, 59#6, 0#1, 0#1, 23#5, 0#2, 0#1, 31#5, 3#3, 1#4, 0#4, 24#7, 0#1⟩) [0x7F#8, 0x01#8] [0x02#8, 0x01#8, 0x00#8, 0x01#8, 0x00#8, 0x00#8, 0x00#8, 0x00#8, 0x00#8, 0x21#8, 0x01#8, 0x18#8, 0x5F#8, 0xEA#8, 0x3B#8, 0x17#8, 0x7F#8, 0x01#8, 0x18#8]].all (fun b => b) = true := by decide +kernel

/-- 45_ft12_link.md R362 to R364: the examples. -/
theorem test_ft12_encoders :
    [gives (exec (.ft12EncFixed 0x49#8 1#16) base) (fun t => (Mem.read t.txbuf 0 5, t.txLen)) ([0x10#8, 0x49#8, 0x01#8, 0x4A#8, 0x16#8], 5#16),
     gives (exec (.ft12EncFixed 0x49#8 256#16) base) (fun t => (t.status, t.statusInfo)) (0x08#8, 256#16),
     gives (exec (.ft12EncVar 0x73#8 1#16) { after cfg101 with asduLen := 7#8, abuf := Mem.write [] 0 [0x64#8, 0x01#8, 0x06#8, 0x01#8, 0x00#8, 0x00#8, 0x14#8] })
      (fun t => (Mem.read t.txbuf 0 15, t.txLen)) ([0x68#8, 0x09#8, 0x09#8, 0x68#8, 0x73#8, 0x01#8, 0x64#8, 0x01#8, 0x06#8, 0x01#8, 0x00#8, 0x00#8, 0x14#8, 0xF4#8, 0x16#8], 15#16),
     gives (exec (.ft12EncVar 0x73#8 1#16) base) (fun t => t.status) 0x19#8,
     gives (exec .ft12EncSingle base) (fun t => (t.octetAt .txbuf 0, t.txLen)) (0xE5#8, 1#16)].all (fun b => b) = true := by decide +kernel

/-- 45_ft12_link.md R365: the example, and 10 49 01 4A 16 of R362. -/
theorem test_ft12_decode :
    [gives (exec (.ft12Decode 15#16) (holding [0x68#8, 0x09#8, 0x09#8, 0x68#8, 0x73#8, 0x01#8, 0x64#8, 0x01#8, 0x06#8, 0x01#8, 0x00#8, 0x00#8, 0x14#8, 0xF4#8, 0x16#8]))
      (fun t => t.link)
      ⟨true, .variable, 0x73#8, 1#16, 6#16, 7#8, 0#1, 1#1, 1#1, 1#1, 3#4, .userDataConfirm⟩,
     gives (exec (.ft12Decode 14#16) (holding [0x68#8, 0x09#8, 0x09#8, 0x68#8, 0x73#8, 0x01#8, 0x64#8, 0x01#8, 0x06#8, 0x01#8, 0x00#8, 0x00#8, 0x14#8, 0xF4#8, 0x16#8])) (fun t => (t.status, t.statusInfo, t.link.valid)) (0x20#8, 14#16, false),
     gives (exec (.ft12Fixed [0x49#8, 0x01#8, 0x4A#8, 0x16#8]) base) (fun t => (t.status, t.link.fclass)) (0x00#8, .requestLinkStatus),
     gives (exec (.ft12Fixed [0x49#8, 0x01#8, 0x4B#8, 0x16#8]) base) (fun t => (t.status, t.statusInfo)) (0x21#8, 3#16),
     gives (exec (.ft12Variable [0x09#8, 0x09#8, 0x68#8, 0x73#8, 0x01#8, 0x64#8, 0x01#8, 0x06#8, 0x01#8, 0x00#8, 0x00#8, 0x14#8, 0xF4#8, 0x16#8]) base) (fun t => (t.status, t.link.udLen)) (0x00#8, 7#8),
     gives (exec (.ft12Single []) base) (fun t => (t.status, t.link.kind, t.link.fclass)) (0x00#8, .single, .none)].all (fun b => b) = true := by decide +kernel

/-- 45_ft12_link.md R370 to R395. -/
theorem test_function_codes :
    [gives (exec (.unbPriResetRemoteLink 0#1 1#1 0#1 [5#8]) (after cfg104))
      (fun t => (t.status, t.link.fc, t.link.prm, t.link.fclass, t.link.a)) (0x00#8, 0#4, 1#1, .resetRemoteLink, 5#16),
     gives (exec (.unbPriResetUserProcess 0#1 1#1 0#1 [5#8]) (after cfg104))
      (fun t => (t.status, t.link.fc, t.link.prm, t.link.fclass, t.link.a)) (0x00#8, 1#4, 1#1, .resetUserProcess, 5#16),
     gives (exec (.unbPriUserDataConfirm 0#1 1#1 0#1 [5#8] [0xAA#8]) (after cfg104))
      (fun t => (t.status, t.link.fc, t.link.prm, t.link.fclass, t.link.a)) (0x00#8, 3#4, 1#1, .userDataConfirm, 5#16),
     gives (exec (.unbPriUserDataNoReply 0#1 1#1 0#1 [5#8] [0xAA#8]) (after cfg104))
      (fun t => (t.status, t.link.fc, t.link.prm, t.link.fclass, t.link.a)) (0x00#8, 4#4, 1#1, .userDataNoReply, 5#16),
     gives (exec (.unbPriRequestAccessDemand 0#1 1#1 0#1 [5#8]) (after cfg104))
      (fun t => (t.status, t.link.fc, t.link.prm, t.link.fclass, t.link.a)) (0x00#8, 8#4, 1#1, .requestAccessDemand, 5#16),
     gives (exec (.unbPriRequestLinkStatus 0#1 1#1 0#1 [5#8]) (after cfg104))
      (fun t => (t.status, t.link.fc, t.link.prm, t.link.fclass, t.link.a)) (0x00#8, 9#4, 1#1, .requestLinkStatus, 5#16),
     gives (exec (.unbPriRequestClass1 0#1 1#1 0#1 [5#8]) (after cfg104))
      (fun t => (t.status, t.link.fc, t.link.prm, t.link.fclass, t.link.a)) (0x00#8, 10#4, 1#1, .requestClass1, 5#16),
     gives (exec (.unbPriRequestClass2 0#1 1#1 0#1 [5#8]) (after cfg104))
      (fun t => (t.status, t.link.fc, t.link.prm, t.link.fclass, t.link.a)) (0x00#8, 11#4, 1#1, .requestClass2, 5#16),
     gives (exec (.balPriResetRemoteLink 0#1 1#1 0#1 [5#8]) (after { cfg104 with linkMode := .balanced }))
      (fun t => (t.status, t.link.fc, t.link.prm, t.link.fclass, t.link.a)) (0x00#8, 0#4, 1#1, .resetRemoteLink, 5#16),
     gives (exec (.balPriResetUserProcess 0#1 1#1 0#1 [5#8]) (after { cfg104 with linkMode := .balanced }))
      (fun t => (t.status, t.link.fc, t.link.prm, t.link.fclass, t.link.a)) (0x00#8, 1#4, 1#1, .resetUserProcess, 5#16),
     gives (exec (.balPriTestLink 0#1 1#1 0#1 [5#8]) (after { cfg104 with linkMode := .balanced }))
      (fun t => (t.status, t.link.fc, t.link.prm, t.link.fclass, t.link.a)) (0x00#8, 2#4, 1#1, .testLink, 5#16),
     gives (exec (.balPriUserDataConfirm 0#1 1#1 0#1 [5#8] [0xAA#8]) (after { cfg104 with linkMode := .balanced }))
      (fun t => (t.status, t.link.fc, t.link.prm, t.link.fclass, t.link.a)) (0x00#8, 3#4, 1#1, .userDataConfirm, 5#16),
     gives (exec (.balPriUserDataNoReply 0#1 1#1 0#1 [5#8] [0xAA#8]) (after { cfg104 with linkMode := .balanced }))
      (fun t => (t.status, t.link.fc, t.link.prm, t.link.fclass, t.link.a)) (0x00#8, 4#4, 1#1, .userDataNoReply, 5#16),
     gives (exec (.balPriRequestLinkStatus 0#1 1#1 0#1 [5#8]) (after { cfg104 with linkMode := .balanced }))
      (fun t => (t.status, t.link.fc, t.link.prm, t.link.fclass, t.link.a)) (0x00#8, 9#4, 1#1, .requestLinkStatus, 5#16),
     gives (exec (.unbSecAck 0#1 1#1 0#1 [5#8]) (after cfg104))
      (fun t => (t.status, t.link.fc, t.link.prm, t.link.fclass, t.link.a)) (0x00#8, 0#4, 0#1, .ack, 5#16),
     gives (exec (.unbSecNackBusy 0#1 1#1 0#1 [5#8]) (after cfg104))
      (fun t => (t.status, t.link.fc, t.link.prm, t.link.fclass, t.link.a)) (0x00#8, 1#4, 0#1, .nackBusy, 5#16),
     gives (exec (.unbSecUserData 0#1 1#1 0#1 [5#8] [0xAA#8]) (after cfg104))
      (fun t => (t.status, t.link.fc, t.link.prm, t.link.fclass, t.link.a)) (0x00#8, 8#4, 0#1, .userData, 5#16),
     gives (exec (.unbSecNackNoData 0#1 1#1 0#1 [5#8]) (after cfg104))
      (fun t => (t.status, t.link.fc, t.link.prm, t.link.fclass, t.link.a)) (0x00#8, 9#4, 0#1, .nackNoData, 5#16),
     gives (exec (.unbSecLinkStatus 0#1 1#1 0#1 [5#8]) (after cfg104))
      (fun t => (t.status, t.link.fc, t.link.prm, t.link.fclass, t.link.a)) (0x00#8, 11#4, 0#1, .linkStatus, 5#16),
     gives (exec (.unbSecLinkNotFunctioning 0#1 1#1 0#1 [5#8]) (after cfg104))
      (fun t => (t.status, t.link.fc, t.link.prm, t.link.fclass, t.link.a)) (0x00#8, 14#4, 0#1, .linkNotFunctioning, 5#16),
     gives (exec (.unbSecLinkNotImplemented 0#1 1#1 0#1 [5#8]) (after cfg104))
      (fun t => (t.status, t.link.fc, t.link.prm, t.link.fclass, t.link.a)) (0x00#8, 15#4, 0#1, .linkNotImplemented, 5#16),
     gives (exec (.balSecAck 0#1 1#1 0#1 [5#8]) (after { cfg104 with linkMode := .balanced }))
      (fun t => (t.status, t.link.fc, t.link.prm, t.link.fclass, t.link.a)) (0x00#8, 0#4, 0#1, .ack, 5#16),
     gives (exec (.balSecNackBusy 0#1 1#1 0#1 [5#8]) (after { cfg104 with linkMode := .balanced }))
      (fun t => (t.status, t.link.fc, t.link.prm, t.link.fclass, t.link.a)) (0x00#8, 1#4, 0#1, .nackBusy, 5#16),
     gives (exec (.balSecLinkStatus 0#1 1#1 0#1 [5#8]) (after { cfg104 with linkMode := .balanced }))
      (fun t => (t.status, t.link.fc, t.link.prm, t.link.fclass, t.link.a)) (0x00#8, 11#4, 0#1, .linkStatus, 5#16),
     gives (exec (.balSecLinkNotFunctioning 0#1 1#1 0#1 [5#8]) (after { cfg104 with linkMode := .balanced }))
      (fun t => (t.status, t.link.fc, t.link.prm, t.link.fclass, t.link.a)) (0x00#8, 14#4, 0#1, .linkNotFunctioning, 5#16),
     gives (exec (.balSecLinkNotImplemented 0#1 1#1 0#1 [5#8]) (after { cfg104 with linkMode := .balanced }))
      (fun t => (t.status, t.link.fc, t.link.prm, t.link.fclass, t.link.a)) (0x00#8, 15#4, 0#1, .linkNotImplemented, 5#16)].all (fun b => b) = true := by decide +kernel

/-- 46_apci.md R417 to R419: the examples, and 95_test_vectors.md W1 and W4. -/
theorem test_apci_receive :
    [gives (exec (.apciReceive 16#16) { window5to16 with rxbuf := Mem.write [] 0 [0x68#8, 0x0E#8, 0x00#8, 0x00#8, 0x22#8, 0x00#8, 0x64#8, 0x01#8, 0x06#8, 0x00#8, 0x01#8, 0x00#8, 0x00#8, 0x00#8, 0x00#8, 0x14#8] })
      (fun t => (t.apci.rx.kind, t.apci.rx.ns, t.apci.rx.nr, t.apci.rx.asduOff, t.apci.rx.asduLen, t.apci.rx.retired, t.apci.vr, t.apci.unackRx))
      (.i, 0#15, 17#15, 6#16, 10#8, 12#15, 1#15, 1#15),
     gives (exec (.apciReceive 16#16) { base with rxbuf := Mem.write [] 0 [0x68#8, 0x0E#8, 0x00#8, 0x00#8, 0x22#8, 0x00#8, 0x64#8, 0x01#8, 0x06#8, 0x00#8, 0x01#8, 0x00#8, 0x00#8, 0x00#8, 0x00#8, 0x14#8] })
      (fun t => (t.status, t.apci.state)) (0x13#8, .faulted),
     gives (exec (.iFrame 0#7 0#8 0x22#8 0#8 [0x64#8, 0x01#8, 0x06#8, 0x00#8, 0x01#8, 0x00#8, 0x00#8, 0x00#8, 0x00#8, 0x14#8]) window5to16) (fun t => (t.status, t.apci.vr, t.apci.rx.asduLen)) (0x00#8, 1#15, 10#8),
     gives (exec (.iFrame 1#7 0#8 0x22#8 0#8 []) window5to16) (fun t => (t.status, t.statusInfo, t.apci.state)) (0x11#8, 1#16, .faulted),
     gives (exec (.sFrame 0#8 0x14#8 0#8 []) window5to16)
      (fun t => (t.status, t.apci.rx.retired, t.apci.winCount, t.apci.winOldest, t.apci.rx.retiredTag.qidx)) (0x00#8, 5#15, 7, 5, 4#16),
     gives (exec (.sFrame 0#8 0x08#8 0#8 []) window5to16) (fun t => (t.status, t.statusInfo, t.apci.winCount)) (0x12#8, 4#16, 12)].all (fun b => b) = true := by decide +kernel

/-- 46_apci.md R420 to R425. -/
theorem test_apci_u_frames :
    [gives (exec (.uStartdtAct 0#8 0#8 0#8 []) base) (fun t => (t.apci.state, t.apci.respStartdtCon)) (.started, true),
     gives (exec (.uStartdtAct 0#8 0#8 0#8 []) (after { cfg104 with apciRole := .controlling })) (fun t => (t.status, t.statusInfo, t.apci.state)) (0x18#8, 7#16, .stopped),
     gives (exec (.uStartdtCon 0#8 0#8 0#8 []) { (after { cfg104 with apciRole := .controlling }) with apci.startdtPending := true })
      (fun t => (t.apci.state, t.apci.startdtPending)) (.started, false),
     gives (exec (.uStopdtAct 0#8 0#8 0#8 []) window5to16) (fun t => (t.apci.state, t.apci.respStopdtCon)) (.unconfirmedStopped, false),
     gives (exec (.uStopdtCon 0#8 0#8 0#8 []) { (after { cfg104 with apciRole := .controlling }) with apci.stopdtPending := true, apci.state := .unconfirmedStopped })
      (fun t => (t.apci.state, t.apci.stopdtPending)) (.stopped, false),
     gives (exec (.uTestfrAct 0#8 0#8 0#8 []) base) (fun t => (t.status, t.apci.respTestfrCon)) (0x00#8, true),
     gives (exec (.uTestfrCon 0#8 0#8 0#8 []) { base with apci.testOutstanding := true }) (fun t => (t.status, t.apci.testOutstanding)) (0x00#8, false)].all (fun b => b) = true := by decide +kernel

/-- 46_apci.md R426 to R429: the examples. -/
theorem test_apci_send :
    [gives (exec (.apciSendI ⟨4#16, 0#64⟩) { started with apci.vs := 4#15, asduLen := 10#8, abuf := Mem.write [] 0 [0x01#8, 0x01#8, 0x03#8, 0x00#8, 0x01#8, 0x00#8, 0x64#8, 0x00#8, 0x00#8, 0x01#8] })
      (fun t => (Mem.read t.txbuf 0 16, t.txLen, t.apci.vs, t.apci.winCount, (t.apci.win.getD 0 WinEntry.zero).seq))
      ([0x68#8, 0x0E#8, 0x08#8, 0x00#8, 0x00#8, 0x00#8, 0x01#8, 0x01#8, 0x03#8, 0x00#8, 0x01#8, 0x00#8, 0x64#8, 0x00#8, 0x00#8, 0x01#8], 16#16, 5#15, 1, 4#15),
     gives (exec (.apciSendI ⟨4#16, 0#64⟩) window5to16) (fun t => (t.status, t.statusInfo)) (0x14#8, 12#16),
     gives (exec .apciSendS { started with apci.vr := 1#15, apci.unackRx := 3#15 }) (fun t => (Mem.read t.txbuf 0 6, t.apci.unackRx))
      ([0x68#8, 0x04#8, 0x01#8, 0x00#8, 0x02#8, 0x00#8], 0#15),
     gives (exec .apciSendS base) (fun t => t.status) 0x17#8,
     gives (exec (.apciSendU .startdtAct) (after { cfg104 with apciRole := .controlling })) (fun t => (Mem.read t.txbuf 0 6, t.apci.startdtPending))
      ([0x68#8, 0x04#8, 0x07#8, 0x00#8, 0x00#8, 0x00#8], true),
     gives (exec (.apciSendU .startdtAct) base) (fun t => (t.status, t.statusInfo)) (0x18#8, 7#16),
     gives (exec .apciReset { window5to16 with apci.state := .faulted }) (fun t => (t.apci.state, t.apci.vs, t.apci.winCount)) (.stopped, 0#15, 0)].all (fun b => b) = true := by decide +kernel

/-- 47_checksum.md R471 to R477: the examples. -/
theorem test_checksum :
    [gives (exec .chkResetFile { base with chk := ⟨1#8, 2#8⟩ }) (fun t => t.chk) ⟨0#8, 0#8⟩,
     gives (exec .chkBeginSection { base with chk := ⟨0x50#8, 0x12#8⟩ }) (fun t => t.chk) ⟨0#8, 0x12#8⟩,
     gives (exec (.chkAdd .rxbuf 20#16 4#16) { base with rxbuf := Mem.write [] 20 [0x10#8, 0x20#8, 0x30#8, 0xF0#8] }) (fun t => t.chk) ⟨0x50#8, 0#8⟩,
     gives (exec (.chkAdd .abuf 250#16 6#16) base) (fun t => (t.status, t.statusInfo)) (0x0E#8, 250#16),
     gives (exec .chkAddElement { base with chk := ⟨5#8, 0#8⟩, elem := ⟨true, 0#7, ⟨125#8, 0#24, .fSgNa1 ⟨1#16⟩ ⟨1#8⟩ [0x10#8, 0x20#8, 0x30#8, 0xF0#8]⟩⟩ })
      (fun t => t.chk) ⟨0x55#8, 0#8⟩,
     gives (exec (.chkCheckSection 0x50#8) { base with chk := ⟨0x50#8, 0x10#8⟩ }) (fun t => t.chk) ⟨0#8, 0x60#8⟩,
     gives (exec (.chkCheckSection 0x51#8) { base with chk := ⟨0x50#8, 0x10#8⟩ }) (fun t => (t.chk, t.status, t.statusInfo)) (⟨0#8, 0x10#8⟩, 0x30#8, 0x50#16),
     gives (exec .chkCloseSection { base with chk := ⟨0x50#8, 0xC0#8⟩ }) (fun t => t.chk) ⟨0#8, 0x10#8⟩,
     gives (exec (.chkCheckFile 0x60#8) { base with chk := ⟨0#8, 0x60#8⟩ }) (fun t => t.status) 0x00#8,
     gives (exec (.chkCheckFile 0x61#8) { base with chk := ⟨0#8, 0x60#8⟩ }) (fun t => (t.status, t.statusInfo)) (0x30#8, 0x60#16)].all (fun b => b) = true := by decide +kernel

/-- 41_primitive_codecs.md R193 to R195: the values of 95_test_vectors.md section 2.1. -/
theorem test_conversions : svaFromInt 32768 = ⟨32767#16⟩ ∧ svaFromInt (-40000) = ⟨BitVec.ofInt 16 (-32768)⟩ ∧
    vtiToInt ⟨0x7F#7, 0#1⟩ = -1 := by decide

/-- 20_memory.md R74, R75 and 92_eei_decisions.md D31: what a host write does besides the octets. -/
theorem test_host_writes :
    gives (step { viewed with elem.valid := true, input := [.writeBuf .rxbuf 260#16 [7#8]] })
      (fun t => (t.octetAt .rxbuf 260, t.view.valid, t.elem.valid)) (7#8, false, false) = true ∧
    gives (step { building with input := [.writeBuf .abuf 254#16 [7#8]] }) (fun t => (t.octetAt .abuf 254, t.builder.active)) (7#8, false) = true ∧
    gives (step { base with input := [.writeReg .vs 9#64] }) (fun t => t) base = true := by decide +kernel

/-! ## States that meet the hypotheses of the statements

One theorem for each statement of Certificates/Slice0/Obligations.lean that has hypotheses, with a state for each of its
clauses, at a boundary of its range. -/

/-- The hypotheses that most statements share. -/
def Ready (s : State) (c : Config) : Prop := s.config = some c ∧ c.valid = true ∧ s.MemOk

theorem ready_of {s : State} {c : Config} (h : s.config = some c) (hv : c.valid = true) (hm : ∀ b, s.buf b = []) :
    Ready s c :=
  ⟨h, hv, fun b => by simp [hm b, Mem.wf, Mem.wfFrom, Mem.inBounds]⟩

theorem ready_base : Ready base cfg104 := ready_of rfl rfl fun b => by cases b <;> rfl

theorem ready_building : Ready building cfg104 := ⟨rfl, rfl, memOk_of (by decide +kernel)⟩

theorem witness_DecodeEncode : (Instr.asduSetRaw 200#8 1#8 (List.replicate 255 0#8)).wf = true ∧
    (Instr.iFrame 0#7 0#8 0#8 0#8 (List.replicate 251 0#8)).wf = true ∧
    (Instr.unbSecUserData 0#1 0#1 0#1 [1#8, 2#8] (List.replicate 252 0#8)).wf = true := by decide +kernel

theorem witness_EncodeDecode :
    decode .command [0x15#8, 7#8, 9#8] = .ok (.asduGetElement 7#8, [9#8]) := rfl

theorem witness_StepRunsDecodedInstruction :
    ({ base with input := [.present .command [0x34#8]] } : State).input = .present .command [0x34#8] :: [] ∧
    decode .command [0x34#8] = .ok (.apciReset, []) ∧ decodeTableWord 8 0x32 = some .apciSendS := ⟨rfl, rfl, rfl⟩

theorem witness_UnassignedOpcode :
    ({ base with input := [.present .command [0x47#8]] } : State).input = .present .command (0x47#8 :: []) :: [] ∧
    0x47#8 ∉ [0x00#8, 0x01#8, 0x10#8, 0x11#8, 0x12#8, 0x13#8, 0x14#8, 0x15#8, 0x16#8, 0x20#8, 0x21#8, 0x22#8, 0x23#8,
      0x30#8, 0x31#8, 0x32#8, 0x33#8, 0x34#8, 0x40#8, 0x41#8, 0x42#8, 0x43#8, 0x44#8, 0x45#8, 0x46#8] :=
  ⟨rfl, by decide⟩

theorem witness_HostWrites : base.MemOk ∧ ([7#8] : List Byte) ≠ [] ∧ (260#16).toNat + [7#8].length ≤ Buf.rxbuf.size ∧
    (260#16).toNat + [7#8].length ≤ Buf.txbuf.size ∧ (254#16).toNat + [7#8].length ≤ Buf.abuf.size ∧
    ({ base with input := [.writeBuf .abuf 254#16 [7#8]] } : State).input = .writeBuf .abuf 254#16 [7#8] :: [] ∧
    ({ base with input := [.writeBuf .txbuf 261#16 []] } : State).input = .writeBuf .txbuf 261#16 [] :: [] ∧
    ({ base with input := [.writeAsduLen 255#8] } : State).input = .writeAsduLen 255#8 :: [] ∧
    ({ base with input := [.writeReg .chkFile 1#64] } : State).input = .writeReg .chkFile 1#64 :: [] :=
  ⟨ready_base.2.2, List.cons_ne_nil _ _, by decide, by decide, by decide, rfl, rfl, rfl, rfl⟩

theorem inRange_op104 : InRange op104 := by
  refine ⟨?_, ?_, ?_, ?_, ?_, ?_, ?_, ?_, ?_, ?_, ?_, ?_, ?_, ?_, ?_, fun p hp => ?_⟩
  all_goals first | decide | exact absurd hp (by simp [op104])

theorem not_inRange_k0 : ¬ InRange { op104 with k := 0#16 } := fun h => absurd h.2.2.2.2.2.2.1 (by decide)

theorem witness_NotConfigured : State.reset.config = none ∧ Instr.chkAddElement.space = .command ∧
    (Instr.cRdNa1 0#24).space = .asduType ∧ decode .command (0x47#8 :: []) = .error (.unassigned 0x47#8) ∧
    ¬ InRange { op104 with k := 0#16 } ∧ (∀ cfg, Instr.nop ≠ .reset cfg) ∧ State.reset.MemOk ∧
    (Instr.ft12Variable (List.replicate 260 0#8)).space ≠ .command ∧
    (Instr.ft12Variable (List.replicate 260 0#8)).space ≠ .asduType ∧
    (Instr.ft12Variable (List.replicate 260 0#8)).wf = true :=
  ⟨rfl, rfl, rfl, rfl, not_inRange_k0, fun _ h => (by cases h), memOk_of (by decide +kernel), by decide, by decide,
    by decide +kernel⟩

theorem witness_ResetCommand : InRange op104 ∧ ¬ InRange { op104 with k := 0#16 } ∧
    InRange { op104 with cotLen := 1#8, caLen := 1#8, ioaLen := 1#8, maxAsduLen := 5#16, k := 32767#16, w := 32767#16,
                         linkAddrLen := 0#8, linkMode := 1#8, apciRole := 1#8, strictLength := 1#8 } := by
  refine ⟨inRange_op104, not_inRange_k0, ?_⟩
  refine ⟨?_, ?_, ?_, ?_, ?_, ?_, ?_, ?_, ?_, ?_, ?_, ?_, ?_, ?_, ?_, fun p hp => ?_⟩
  all_goals first | decide | exact absurd hp (by simp [op104])

theorem witness_AsduBegin : Ready base cfg104 ∧ Ready (after cfg101) cfg101 ∧ 64 ≤ (64#8).toNat ∧
    ¬ 64 ≤ (63#8).toNat ∧ 2 ^ (8 * cfg101.caLen) ≤ (256#16).toNat ∧ ¬ 2 ^ (8 * cfg101.caLen) ≤ (255#16).toNat ∧
    ¬ 2 ^ (8 * cfg104.caLen) ≤ (65535#16).toNat :=
  ⟨ready_base, ready_of rfl rfl fun b => by cases b <;> rfl, by decide, by decide, by decide, by decide, by decide⟩

/-- A builder that holds one object of type 1. -/
def oneObject : Builder := { newBuilder with type := some 1#8, count := 1#7, firstIoa := 100#24, len := 10#8 }

/-- CFG104 with room for one scaled value. -/
def cfgSmall : Config := { cfg104 with maxAsduLen := 12 }

theorem ready_builder (c : Config) (b : Builder) (h : c.valid = true) : Ready { after c with builder := b } c :=
  ready_of rfl h fun buf => by cases buf <;> rfl

/-- A scaled value of 0 at address 1. -/
def scaled : IOOperand := ⟨11#8, 1#32, .std .mMeNb1 [0#64, 0#64, 0#64, 0#64, 0#64, 0#64, 0#64]⟩

theorem builderOk_reset : builderOk cfg104 Builder.reset := by simp only [builderOk]; decide +kernel

theorem builderOk_new : builderOk cfg104 newBuilder := by simp only [builderOk]; decide +kernel

theorem builderOk_oneObject : builderOk cfg104 oneObject := by simp only [builderOk]; decide +kernel

theorem witness_AsduAddIo :
    (∀ c b, c.valid = true → Ready { after c with builder := b } c) ∧
    (builderOk cfg104 Builder.reset ∧ Builder.reset.active = false) ∧
    (builderOk cfg104 { newBuilder with raw := true, type := some 200#8 } ∧ newBuilder.active = true) ∧
    (builderOk cfg104 newBuilder ∧ psizeOf? cfg104 22#8 = none) ∧
    (builderOk cfg104 oneObject ∧ oneObject.type ≠ none ∧ oneObject.type ≠ some 3#8) ∧
    2 ^ (8 * cfg104.ioaLen) ≤ (0x1000000#32).toNat ∧ ¬ 2 ^ (8 * cfg104.ioaLen) ≤ (0xFFFFFF#32).toNat ∧
    (BodyOperand.std .mStNa1 [64#64, 0#64, 0#64, 0#64, 0#64, 0#64, 0#64, 0#64]).body? = none ∧
    bodyFits cfg104 1#8 (.cIcNa1 ⟨20#8⟩) = false ∧
    (builderOk cfg104 { oneObject with sq := true, count := 127#7, len := 136#8 } ∧ 127 ≤ (127#7).toNat) ∧
    (builderOk cfg104 { newBuilder with sq := true } ∧ seqOk cfg104 2#8 = false) ∧
    (builderOk cfg104 { oneObject with sq := true } ∧ (102#32).toNat ≠ oneObject.firstIoa.toNat + oneObject.count.toNat) ∧
    (builderOk cfgSmall newBuilder ∧ cfgSmall.valid = true ∧
      ∃ body, scaled.body.body? = some body ∧ bodyFits cfgSmall 11#8 body = true ∧
        ¬ cfgSmall.maxAsduLen < newBuilder.len.toNat + (cfgSmall.ioaLen + body.enc.length)) ∧
    (builderOk { cfg104 with maxAsduLen := 11 } newBuilder ∧ 11 < newBuilder.len.toNat + (3 + 3)) := by
  refine ⟨ready_builder, ?_, ?_, ?_, ?_, by decide, by decide, by decide +kernel, by decide, ?_, ?_, ?_, ?_, ?_⟩
  all_goals simp only [builderOk]; decide +kernel

theorem witness_TypeRowsAddObjects : Ready building cfg104 ∧ builderOk cfg104 building.builder ∧
    (Instr.mSpNa1 0xFFFFFF#24 ⟨1#1, 0#3, 0#1, 0#1, 0#1, 0#1⟩).space = .asduType ∧
    Addable cfg104 building.builder TypeId.mSpNa1.code (0xFFFFFF#24).toNat (.mSpNa1 ⟨1#1, 0#3, 0#1, 0#1, 0#1, 0#1⟩) := by
  refine ⟨ready_building, by simp only [builderOk]; decide +kernel, rfl, ?_⟩
  constructor <;> decide +kernel

theorem witness_AsduSetRaw :
    (∀ c b, c.valid = true → Ready { after c with builder := b } c) ∧
    builderOk cfg104 Builder.reset ∧ builderOk cfg104 oneObject ∧ builderOk cfg104 newBuilder ∧
    oneObject.count ≠ 0#7 ∧ 127 < (128#8).toNat ∧ ¬ 127 < (127#8).toNat ∧
    cfg104.maxAsduLen < newBuilder.len.toNat + (List.replicate 244 0#8).length ∧
    ¬ cfg104.maxAsduLen < newBuilder.len.toNat + (List.replicate 243 0#8).length := by
  refine ⟨ready_builder, builderOk_reset, builderOk_oneObject, builderOk_new, ?_⟩
  decide +kernel

theorem witness_AsduEncode : base.config = some cfg104 ∧ builderOk cfg104 Builder.reset ∧
    (builderOk cfg104 newBuilder ∧ newBuilder.active = true ∧ newBuilder.type = none) ∧
    (builderOk cfg104 oneObject ∧ oneObject.type ≠ none) :=
  ⟨rfl, builderOk_reset, ⟨builderOk_new, rfl, rfl⟩, builderOk_oneObject, by decide⟩

/-- CFG104 with STRICT_LENGTH. -/
def cfgStrict : Config := { cfg104 with strictLength := true }

theorem witness_AsduDecodeFixedSize : received.config = some cfg104 ∧ cfg104.valid = true ∧
    261 < (1#16).toNat + (261#16).toNat ∧ (5#16).toNat < cfg104.hdrLen ∧
    (octet (Mem.read received.rxbuf 0 10) 0 ≠ 125#8 ∧ psizeOf? cfg104 (octet (Mem.read received.rxbuf 0 10) 0) = some (.fixed 1#8)) ∧
    psizeOf? cfg104 (octet (Mem.read (holding [22#8, 1#8, 0#8, 0#8, 0#8, 0#8]).rxbuf 0 6) 0) = none ∧
    (10#16).toNat = cfg104.hdrLen + 1 * (cfg104.ioaLen + (1#8).toNat) ∧ cfgStrict.valid = true ∧
    cfgStrict.strictLength = true := by decide +kernel

/-- The header of an ASDU of type 125 with a count. -/
def segHeader (count : Byte) : List Byte := [0x7D#8, count, 0x0D#8, 0x00#8, 0x01#8, 0x00#8]

/-- An element with a segment of two octets, and one with an empty segment. -/
def segOne : List Byte := [0x01#8, 0x00#8, 0x00#8, 0x01#8, 0x00#8, 0x02#8, 0x02#8, 0xAA#8, 0xBB#8]

def segTwo : List Byte := [0x02#8, 0x00#8, 0x00#8, 0x01#8, 0x00#8, 0x02#8, 0x00#8]

theorem witness_AsduDecodeSegments : SegmentOctets cfg104 segOne ∧ SegmentOctets cfg104 segTwo ∧
    (Mem.read (holding (segHeader 2#8 ++ segOne ++ segTwo)).rxbuf 0 22 = segHeader 2#8 ++ [segOne, segTwo].flatten ++ [] ∧
      (segHeader 2#8).length = cfg104.hdrLen ∧ octet (segHeader 2#8) 0 = 125#8 ∧ 0 + 22 ≤ 261) ∧
    (Mem.read (holding (segHeader 2#8 ++ segOne ++ segTwo)).rxbuf 0 21 = segHeader 2#8 ++ [segOne].flatten ++ segTwo.take 6 ∧
      (segTwo.take 6).length < cfg104.ioaLen + 4) ∧
    (Mem.read (holding (segHeader 2#8 ++ segTwo ++ segOne)).rxbuf 0 20 = segHeader 2#8 ++ [segTwo].flatten ++ segOne.take 7 ∧
      cfg104.ioaLen + 4 ≤ (segOne.take 7).length ∧ 7 < cfg104.ioaLen + 4 + (octet (segOne.take 7) 6).toNat) ∧
    Mem.read (holding (segHeader 0x81#8 ++ segOne)).rxbuf 0 15 = segHeader 0x81#8 ++ [segOne].flatten ++ [] := by
  simp only [SegmentOctets]; decide +kernel

/-- A view of a sequence of two single points. -/
def viewedSequence : State := stateOf (exec (.asduDecode 0#16 11#16)
  (holding [0x01#8, 0x82#8, 0x03#8, 0x00#8, 0x01#8, 0x00#8, 0xFF#8, 0xFF#8, 0xFF#8, 0x00#8, 0x01#8]))

theorem witness_AsduGetElementFixedSize :
    (viewed.config = some cfg104 ∧ cfg104.valid = true ∧ viewed.view.valid = true ∧ viewed.view.known = true ∧
      psizeOf? cfg104 viewed.view.hdr.type = some (.fixed 1#8) ∧ (0#8).toNat < viewed.view.hdr.count.toNat ∧
      viewed.view.hdr.sq = false) ∧
    (viewedSequence.config = some cfg104 ∧ viewedSequence.view.valid = true ∧ viewedSequence.view.known = true ∧
      psizeOf? cfg104 viewedSequence.view.hdr.type = some (.fixed 1#8) ∧
      (1#8).toNat < viewedSequence.view.hdr.count.toNat ∧ viewedSequence.view.hdr.sq = true) := by decide +kernel

/-- A view of two file segments. -/
def viewedSegments : State := stateOf (exec (.asduDecode 0#16 22#16) (holding (segHeader 2#8 ++ segOne ++ segTwo)))

theorem witness_AsduGetElementSegment : viewedSegments.config = some cfg104 ∧ viewedSegments.view.valid = true ∧
    viewedSegments.view.known = true ∧ viewedSegments.view.hdr.type = 125#8 ∧
    (1#8).toNat < viewedSegments.view.hdr.count.toNat ∧ [segOne].length = (1#8).toNat ∧ SegmentOctets cfg104 segOne ∧
    SegmentOctets cfg104 segTwo ∧ viewedSegments.view.off.toNat + cfg104.hdrLen + ([segOne].flatten ++ segTwo).length ≤ 261 ∧
    Mem.read viewedSegments.rxbuf (viewedSegments.view.off.toNat + cfg104.hdrLen) ([segOne].flatten ++ segTwo).length =
      [segOne].flatten ++ segTwo := by
  simp only [SegmentOctets]; decide +kernel

/-- The view of an ASDU of 261 octets whose type is not known. -/
def viewedUnknown : State := stateOf (exec (.asduDecode 0#16 261#16) (holding [22#8, 1#8, 3#8, 0#8, 1#8, 0#8]))

theorem witness_AsduGetElementRefusals : base.config = some cfg104 ∧ base.view.valid = false ∧
    (viewedUnknown.config = some cfg104 ∧ viewedUnknown.view.valid = true ∧ viewedUnknown.view.known = false) ∧
    viewed.view.valid = true ∧ viewed.view.known = true ∧ viewed.view.hdr.count.toNat ≤ (1#8).toNat := by
  decide +kernel

theorem witness_AsduRewriteCot : Ready base cfg104 ∧ Ready viewed cfg104 ∧ Ready viewedUnknown cfg104 ∧
    (viewOk cfg104 base.view base.rxbuf ∧ base.view.valid = false) ∧
    (viewOk cfg104 viewed.view viewed.rxbuf ∧ viewed.view.valid = true ∧ 64 ≤ (64#8).toNat ∧ ¬ 64 ≤ (63#8).toNat ∧
      ¬ 255 < viewed.view.len.toNat) ∧
    (viewOk cfg104 viewedUnknown.view viewedUnknown.rxbuf ∧ 255 < viewedUnknown.view.len.toNat) :=
  ⟨ready_base, ⟨by decide +kernel, rfl, memOk_of (by decide +kernel)⟩,
    ⟨by decide +kernel, rfl, memOk_of (by decide +kernel)⟩, by simp only [viewOk]; decide +kernel,
    by simp only [viewOk]; decide +kernel, by simp only [viewOk]; decide +kernel⟩

theorem witness_Ft12EncFixed : Ready base cfg104 ∧ 2 ^ (8 * cfg104.linkAddrLen) ≤ (256#16).toNat ∧
    ¬ 2 ^ (8 * cfg104.linkAddrLen) ≤ (255#16).toNat := ⟨ready_base, by decide, by decide⟩

theorem witness_Ft12EncVar : (∀ n, Ready { base with asduLen := n } cfg104) ∧
    2 ^ (8 * cfg104.linkAddrLen) ≤ (256#16).toNat ∧ (0#8).toNat = 0 ∧ 254 - cfg104.linkAddrLen < (254#8).toNat ∧
    ¬ 254 - cfg104.linkAddrLen < (253#8).toNat :=
  ⟨fun _ => ready_of rfl rfl fun b => by cases b <;> rfl, by decide, by decide, by decide, by decide⟩

theorem witness_Ft12EncSingle : base.config = some cfg104 ∧ base.MemOk := ⟨rfl, ready_base.2.2⟩

theorem witness_Ft12DecodeCommand : base.config = some cfg104 ∧ cfg104.valid = true ∧ 261 < (262#16).toNat ∧
    ¬ 261 < (261#16).toNat := ⟨rfl, rfl, by decide, by decide⟩

theorem witness_Ft12FrameRows : Ready base cfg104 ∧ (List.replicate 260 0#8).length ≤ 260 ∧
    [5#8].length = cfg104.linkAddrLen ∧ 1 + [5#8].length + (List.replicate 253 0#8).length ≤ 255 :=
  ⟨ready_base, by decide +kernel, rfl, by decide +kernel⟩

theorem witness_UnbalancedFunctionCodes : Ready base cfg104 ∧ cfg104.linkMode = .unbalanced ∧
    [5#8].length = cfg104.linkAddrLen ∧ 1 + [5#8].length + (List.replicate 253 0#8).length ≤ 255 :=
  ⟨ready_base, rfl, rfl, by decide +kernel⟩

theorem witness_BalancedFunctionCodes :
    Ready (after { cfg104 with linkMode := .balanced }) { cfg104 with linkMode := .balanced } ∧
    [5#8].length = cfg104.linkAddrLen ∧ 1 + [5#8].length + (List.replicate 253 0#8).length ≤ 255 :=
  ⟨ready_of rfl rfl fun b => by cases b <;> rfl, rfl, by decide +kernel⟩

theorem witness_ReservedFunctionCodes : (15#4).toNat ∈ [2, 5, 6, 7, 12, 13, 14, 15] ∧
    (5#4).toNat ∈ [5, 6, 7, 8, 10, 11, 12, 13, 14, 15] ∧ (13#4).toNat ∈ [2, 3, 4, 5, 6, 7, 10, 12, 13] ∧
    (2#4).toNat ∈ [2, 3, 4, 5, 6, 7, 8, 9, 10, 12, 13] := by decide

theorem witness_Ft12ChecksumCatchesOneWrongOctet :
    let body : List Byte := [0x73#8, 0x01#8, 0x64#8]
    base.config = some cfg104 ∧ cfg104.valid = true ∧ 1 + cfg104.linkAddrLen ≤ body.length ∧ body.length ≤ 255 ∧
    2 < body.length ∧ 0x65#8 ≠ octet body 2 ∧ (9#16).toNat = body.length + 6 ∧
    Mem.read (holding ([0x68#8, 3#8, 3#8, 0x68#8] ++ body.set 2 0x65#8 ++ [sum8 body, 0x16#8])).rxbuf 0 9 =
      [0x68#8, BitVec.ofNat 8 body.length, BitVec.ofNat 8 body.length, 0x68#8] ++ body.set 2 0x65#8 ++
        [sum8 body, 0x16#8] := by decide +kernel

theorem windowOk_window5to16 : windowOk cfg104 window5to16.apci := by
  simp only [windowOk]; decide +kernel

theorem windowOk_base : windowOk cfg104 base.apci := by
  simp only [windowOk]; decide +kernel

/-- The first octets of RXBUF after a frame, as a statement about APCI_RECEIVE reads them. -/
def front (os : List Byte) (n : Nat) : List Byte := Mem.read (holding os).rxbuf 0 n

theorem witness_ApciReceive : base.config = some cfg104 ∧ cfg104.valid = true ∧ windowOk cfg104 base.apci ∧
    windowOk cfg104 window5to16.apci ∧ ({ base with apci.state := .faulted } : State).apci.state = .faulted ∧
    261 < (262#16).toNat ∧ (5#16).toNat < 6 ∧ octet (front [0x67#8] 6) 0 ≠ 0x68#8 ∧
    (octet (front [0x68#8, 3#8] 6) 1).toNat < 4 ∧ 253 < (octet (front [0x68#8, 254#8] 256) 1).toNat ∧
    (6#16).toNat = (octet (front [0x68#8, 0x04#8, 0x01#8, 0x00#8, 0x14#8, 0x00#8] 6) 1).toNat + 2 ∧ (octet (front [0x68#8, 4#8, 0#8] 6) 2).toNat % 2 = 0 ∧
    (octet (front [0x68#8, 5#8, 1#8] 7) 1).toNat ≠ 4 ∧ octet (front [0x68#8, 0x04#8, 0x01#8, 0x00#8, 0x14#8, 0x00#8] 6) 2 = 0x01#8 ∧
    octet (front [0x68#8, 4#8, 0x07#8] 6) 2 = 0x07#8 ∧ octet (front [0x68#8, 4#8, 0x0B#8] 6) 2 = 0x0B#8 ∧
    octet (front [0x68#8, 4#8, 0x13#8] 6) 2 = 0x13#8 ∧ octet (front [0x68#8, 4#8, 0x23#8] 6) 2 = 0x23#8 ∧
    octet (front [0x68#8, 4#8, 0x43#8] 6) 2 = 0x43#8 ∧ octet (front [0x68#8, 4#8, 0x83#8] 6) 2 = 0x83#8 ∧
    octet (front [0x68#8, 4#8, 0x03#8] 6) 2 ∉ [0x07#8, 0x0B#8, 0x13#8, 0x23#8, 0x43#8, 0x83#8] :=
  ⟨rfl, rfl, windowOk_base, windowOk_window5to16, rfl, by decide +kernel⟩

theorem ready_apci (a : Apci) : Ready { base with apci := a } cfg104 := ready_of rfl rfl fun b => by cases b <;> rfl

theorem witness_IFrameRow : Ready window5to16 cfg104 ∧ windowOk cfg104 window5to16.apci ∧ window5to16.apci.state = .started ∧
    windowOk cfg104 base.apci ∧ base.apci.state = .stopped ∧ NrValid window5to16.apci 17#15 ∧ NrValid window5to16.apci 5#15 ∧
    ¬ NrValid window5to16.apci 4#15 ∧ ¬ NrValid window5to16.apci 18#15 ∧ (0#8 ++ 0#7 : BitVec 15) = window5to16.apci.vr ∧
    (List.replicate 249 0#8).length ≤ 251 ∧ 249 < (List.replicate 250 0#8).length := by
  refine ⟨ready_apci _, windowOk_window5to16, rfl, windowOk_base, rfl, ?_⟩
  simp only [NrValid]; decide +kernel

theorem witness_SFrameRow : Ready window5to16 cfg104 ∧ windowOk cfg104 window5to16.apci ∧ window5to16.apci.state = .started ∧
    Ready base cfg104 ∧ windowOk cfg104 base.apci ∧ base.apci.state = .stopped ∧ NrValid window5to16.apci 17#15 ∧
    ¬ NrValid window5to16.apci 18#15 ∧ ([] : List Byte).length ≤ 251 ∧ ([0#8] : List Byte) ≠ [] := by
  refine ⟨ready_apci _, windowOk_window5to16, rfl, ready_base, windowOk_base, rfl, ?_⟩
  simp only [NrValid]; decide +kernel

theorem witness_UFrameRows : Ready base cfg104 ∧ Ready { base with apci.state := .faulted } cfg104 ∧
    ([] : List Byte).length ≤ 251 ∧ ([0#8] : List Byte) ≠ [] ∧
    (∃ a, UOutcome .controlled (notedU base.apci .startdtAct) .startdtAct a .ok) ∧
    UOutcome .controlled (notedU base.apci .startdtCon) .startdtCon (notedU base.apci .startdtCon) .uUnexpected :=
  ⟨ready_base, ready_apci _, by decide, List.cons_ne_nil _ _, ⟨_, .inl ⟨rfl, rfl, rfl, rfl⟩⟩,
    .inr ⟨fun h => (by cases h.1), rfl, rfl⟩⟩

theorem witness_ApciSendI : (∀ a, Ready { base with apci := a } cfg104) ∧ started.apci.state = .started ∧
    base.apci.state ≠ .started ∧ cfg104.k ≤ window5to16.apci.winCount ∧ ¬ cfg104.k ≤ started.apci.winCount ∧
    started.asduLen.toNat = 0 ∧ 249 < (250#8).toNat ∧ ¬ 249 < (249#8).toNat ∧
    Ready { started with asduLen := 249#8 } cfg104 :=
  ⟨ready_apci, rfl, by decide, by decide, by decide, rfl, by decide, by decide, ready_of rfl rfl fun b => by cases b <;> rfl⟩

theorem witness_ApciSendS : (∀ a, Ready { base with apci := a } cfg104) ∧ base.apci.state = .stopped ∧
    started.apci.state ≠ .stopped ∧ started.apci.state ≠ .faulted := ⟨ready_apci, rfl, by decide, by decide⟩

theorem witness_ApciSendU : Ready base cfg104 ∧ base.apci.state ≠ .faulted ∧
    (∀ a, ¬ USendable cfg104.apciRole base.apci .startdtAct a) ∧
    USendable .controlling base.apci .startdtAct { base.apci with startdtPending := true } ∧
    USendable .controlling started.apci .stopdtAct
      { started.apci with stopdtPending := true, state := .unconfirmedStopped } ∧
    USendable .controlled { base.apci with respStartdtCon := true } .startdtCon base.apci ∧
    USendable .controlled { base.apci with respStopdtCon := true } .stopdtCon base.apci ∧
    USendable .controlled base.apci .testfrAct { base.apci with testOutstanding := true } ∧
    USendable .controlled { base.apci with respTestfrCon := true } .testfrCon base.apci :=
  ⟨ready_base, by decide, fun _ h => (by cases h.1), ⟨rfl, rfl, rfl, rfl⟩, ⟨rfl, rfl, rfl, rfl⟩, ⟨rfl, rfl, rfl⟩,
    ⟨rfl, rfl, rfl⟩, rfl, ⟨rfl, rfl⟩⟩

theorem witness_config : base.config = some cfg104 := rfl

theorem witness_FaultedIsSticky :
    (isNext (exec (.apciReceive 5#16) started) = true ∧
      (stateOf (exec (.apciReceive 5#16) started)).status ∈ [0x10#8, 0x11#8, 0x12#8, 0x13#8]) ∧
    ({ started with apci.state := .faulted } : State).config = some cfg104 ∧
    isNext (exec (.chkBeginSection) { started with apci.state := .faulted }) = true := by decide +kernel

/-- A station with the window 5..16 that has taken the S-frame of 95_test_vectors.md row W1. -/
def confirmed : Out := exec (.apciReceive 6#16) { window5to16 with rxbuf := Mem.write [] 0 [0x68#8, 0x04#8, 0x01#8, 0x00#8, 0x14#8, 0x00#8] }

theorem witness_ConfirmationIsIdempotent : windowOk cfg104 window5to16.apci ∧ confirmed = .next (stateOf confirmed) ∧
    (stateOf confirmed).status = 0x00#8 ∧ (stateOf confirmed).apci.rx.kind = .s ∧
    (stateOf confirmed).apci.state ≠ .stopped :=
  ⟨windowOk_window5to16, eq_next (by decide +kernel), by decide +kernel, by decide +kernel, by decide +kernel⟩

/-- A station that sends an ASDU of six octets. -/
def sender : State := { started with asduLen := 6#8, abuf := [(0, 1#8), (2, 3#8), (4, 1#8)] }

/-- What it answers. -/
def sentOut : Out := exec (.apciSendI ⟨0#16, 0#64⟩) sender

theorem witness_SentIFrameIsAccepted : Ready sender cfg104 ∧ sentOut = .next (stateOf sentOut) ∧
    (stateOf sentOut).status = 0x00#8 ∧ Ready started cfg104 ∧ windowOk cfg104 started.apci ∧
    started.apci.vr = sender.apci.vs ∧ NrValid started.apci sender.apci.vr ∧
    ∃ u, Delivered started u (Mem.read (stateOf sentOut).txbuf 0 (stateOf sentOut).txLen.toNat) :=
  ⟨⟨rfl, rfl, memOk_of (by decide +kernel)⟩, eq_next (by decide +kernel), by decide +kernel, ready_apci _,
    by simp only [windowOk]; decide +kernel, rfl, by simp only [NrValid]; decide +kernel,
    ⟨_, delivered_written _ (ready_apci _).2.2⟩⟩

theorem witness_ChkAdd : base.config = some cfg104 ∧ 255 < (254#16).toNat + (2#16).toNat ∧
    ¬ 255 < (254#16).toNat + (1#16).toNat := ⟨rfl, by decide, by decide⟩

theorem witness_ChkAddElement : base.config = some cfg104 ∧ base.elem.valid = false ∧
    (Element.mk true 0#7 ⟨1#8, 0#24, .cRdNa1⟩).io.type ≠ 125#8 ∧
    (Element.mk true 0#7 ⟨125#8, 0#24, .fSgNa1 ⟨1#16⟩ ⟨1#8⟩ []⟩).io.type = 125#8 := by decide

theorem witness_OnlyResetConfigures : isNext (exec .apciReset base) = true ∧ ∀ cfg, Instr.apciReset ≠ .reset cfg :=
  ⟨rfl, fun _ h => by cases h⟩

theorem witness_BufferAccess : isNext (exec .ft12EncSingle base) = true ∧ Instr.ft12EncSingle.space = .command ∧
    isNext (exec (.cRdNa1 0#24) building) = true ∧ (Instr.cRdNa1 0#24).space = .asduType ∧
    isNext (exec (.ft12Single []) base) = true ∧ (Instr.ft12Single []).space ≠ .command ∧
    (Instr.ft12Single []).space ≠ .asduType := by decide +kernel

theorem witness_RefusalChangesNothing : isNext (exec (.asduDecode 1#16 261#16) viewed) = true ∧
    (stateOf (exec (.asduDecode 1#16 261#16) viewed)).status = 0x0E#8 ∧ (Instr.asduDecode 1#16 261#16).space = .command ∧
    (stateOf (exec (.chkCheckSection 1#8) base)).status = 0x30#8 ∧ (stateOf (exec (.apciReceive 5#16) started)).status = 0x10#8 ∧
    (stateOf (exec (.ft12Decode 0#16) base)).status = 0x20#8 ∧
    (stateOf (exec (.asduGetElement 1#8) viewed)).status = 0x0C#8 := by decide +kernel

theorem witness_CountersMove : isNext sentOut = true ∧ (stateOf sentOut).apci.vs = 1#15 ∧
    isNext (exec (.iFrame 0#7 0#8 0#8 0#8 []) started) = true ∧
    (stateOf (exec (.iFrame 0#7 0#8 0#8 0#8 []) started)).apci.vr = 1#15 := by decide +kernel

theorem witness_ElementsBijective : [0x81#8].length = 1 ∧ (List.replicate 7 0xFF#8).length = 7 := ⟨rfl, rfl⟩

theorem witness_BodiesBijective : (Body.cIcNa1 ⟨20#8⟩).typeId? = some .cIcNa1 ∧ TypeId.cIcNa1 ≠ .fSgNa1 ∧
    (Body.fSgNa1 ⟨1#16⟩ ⟨1#8⟩ (List.replicate 255 0#8)).typeId? = some .fSgNa1 ∧ (List.replicate 255 0#8).length ≤ 255 ∧
    TypeId.fScNb1.psize = .fixed 16#8 ∧ (List.replicate 16 0xFF#8).length = (16#8).toNat := by decide +kernel

theorem witness_FieldValuesPack : TypeId.mMeNb1 ≠ .fSgNa1 ∧
    (TypeId.mMeNb1.bodyOfValues? [32767#64, 0#64, 0#64, 0#64, 0#64, 0#64, 1#64]).isSome = true ∧
    (TypeId.mMeNb1.bodyOfValues? [32768#64, 0#64, 0#64, 0#64, 0#64, 0#64, 1#64]).isSome = false := by decide +kernel

/-- The header of the vectors of 95_test_vectors.md section 2.2. -/
def header : MacroHeader := { sq := false, t := false, pn := false, cot := 3#8, oa := 0#8, ca := 1#16 }

/-- Two objects built and encoded. -/
def built : Out := runMacro (macroBuild header [scaled, { scaled with ioa := 2#32 }]) base

/-- The copy of their ASDU at RXBUF[0..]. -/
def copied : Out :=
  takeAction (.writeBuf .rxbuf 0#16 (Mem.read (stateOf built).abuf 0 (stateOf built).asduLen.toNat)) (stateOf built)

theorem witness_RoundTrip : Ready base cfg104 ∧ [scaled, { scaled with ioa := 2#32 }] ≠ [] ∧
    built = .next (stateOf built) ∧ (stateOf built).status = 0x00#8 ∧
    (0#16).toNat + (stateOf built).asduLen.toNat ≤ 261 ∧ copied = .next (stateOf copied) ∧
    (scaled.body.body?).isSome = true :=
  ⟨ready_base, List.cons_ne_nil _ _, eq_next (by decide +kernel), by decide +kernel, by decide +kernel,
    eq_next (by decide +kernel), by decide +kernel⟩

/-- A station in data transfer with a full window, about to be asked for a NOP. -/
def running : State := { window5to16 with input := [.present .command [0x00#8]] }

theorem inv_running : running.Inv where
  mem := (ready_of (c := cfg104) rfl rfl fun b => by cases b <;> rfl).2.2
  status := ⟨.ok, rfl⟩
  config := fun c h => by injection h with h; exact h ▸ rfl
  txLen := by decide
  unconfigured := fun h => by cases h
  window := fun c h => by injection h with h; exact h ▸ windowOk_window5to16
  builder := fun c h => by intro hb; cases hb
  view := fun c h => by intro hb; cases hb
  elem := fun c h => by intro hb; cases hb
  link := fun c h => by intro hb; cases hb
  roles := by
    intro c h
    cases h
    refine ⟨fun h => ?_, fun h => ?_⟩
    all_goals rcases h with h | h <;> cases h

theorem witness_StepKeepsBuffers : running.MemOk ∧ step running = .next (stateOf (step running)) :=
  ⟨inv_running.mem, eq_next (by decide +kernel)⟩

theorem witness_StepKeepsWindow : running.ConfigOk ∧ (∀ c, running.config = some c → windowOk c running.apci) ∧
    step running = .next (stateOf (step running)) :=
  ⟨inv_running.config, inv_running.window, eq_next (by decide +kernel)⟩

theorem witness_StepKeepsInv : running.Inv ∧ step running = .next (stateOf (step running)) :=
  ⟨inv_running, eq_next (by decide +kernel)⟩

theorem witness_EveryInstructionAnswers : running.Inv ∧ (Instr.ft12Variable (List.replicate 260 0#8)).wf = true :=
  ⟨inv_running, by decide +kernel⟩

theorem witness_Progress : running.Inv ∧ running.InputOk ∧
    ({ running with input := [.present .command [0x47#8]] } : State).InputOk ∧
    ({ running with input := [.writeBuf .rxbuf 260#16 [1#8]] } : State).InputOk :=
  ⟨inv_running, trivial, rfl, .inr (by decide)⟩

end Sys2Proof.Tests
end

section
/-! ## What each instruction can do

`Effect s i u e` lists what an instruction `i` can make of a state `s`: the state `u` before the two status registers are
written, and the status `e`. `exec_answers` says that this is all: an invariant needs only a case analysis over `Effect`. -/

namespace Sys2Proof.Machine

/-! ### Outcomes that end with a status -/

/-- Every next state of an outcome is a state that `P` allows, with the status that `P` allows for it. -/
def Answers (out : Out) (P : State → Status → Prop) : Prop :=
  ∀ t, out = .next t → ∃ u e info, P u e ∧ t = u.withStatus e info

section
variable {s : State} {P : State → Status → Prop} {k : Out}

theorem Answers.finish (h : P s .ok) : Answers s.finish P := by
  intro t ht
  rw [State.finish_eq] at ht
  injection ht with ht
  exact ⟨s, .ok, _, h, ht.symm⟩

theorem Answers.raise {e : Status} {info : BitVec 16} (hf : e.fatal = false) (h : P s e) :
    Answers (s.raise e info) P := by
  intro t ht
  rw [State.raise_nonfatal hf] at ht
  injection ht with ht
  exact ⟨s, e, info, h, ht.symm⟩

/-- A fatal status also sets A_STATE (60_exceptions.md R503). -/
theorem Answers.raise_fatal {e : Status} {info : BitVec 16} (hf : e.fatal = true)
    (h : P { s with apci.state := .faulted } e) : Answers (s.raise e info) P := by
  intro t ht
  rw [State.raise_eq, if_pos hf] at ht
  injection ht with ht
  exact ⟨_, e, info, h, ht.symm⟩

theorem Answers.check {p : Prop} [Decidable p] {e : Status} {info : BitVec 16} (hf : e.fatal = false)
    (hfail : P s e) (hk : p → Answers k P) : Answers (s.check p e info k) P := by
  intro t ht
  rcases State.check_next ht with ⟨hp, ht⟩ | ⟨_, ht⟩
  · exact hk hp t ht
  · exact Answers.raise hf hfail t ht

theorem Answers.check_fatal {p : Prop} [Decidable p] {e : Status} {info : BitVec 16}
    (hf : e.fatal = true) (hfail : P { s with apci.state := .faulted } e) (hk : p → Answers k P) :
    Answers (s.check p e info k) P := by
  intro t ht
  rcases State.check_next ht with ⟨hp, ht⟩ | ⟨_, ht⟩
  · exact hk hp t ht
  · exact Answers.raise_fatal hf hfail t ht

theorem Answers.configured {k : Config → Out} (hnone : P s .notConfigured)
    (hk : ∀ c, s.config = some c → Answers (k c) P) : Answers (s.configured k) P := by
  intro t ht
  rcases State.configured_next ht with ⟨_, rfl⟩ | ⟨c, hc, ht⟩
  · exact ⟨s, _, _, hnone, rfl⟩
  · exact hk c hc t ht

theorem Answers.load {b : Buf} {a n : Nat} {k : List Byte → Out}
    (hk : a + n ≤ b.size → Answers (k (Mem.read (s.buf b) a n)) P) : Answers (s.load b a n k) P :=
  fun t ht => hk (State.load_next ht).1 t (State.load_next ht).2

theorem Answers.store {b : Buf} {a : Nat} {os : List Byte} {k : State → Out}
    (hk : a + os.length ≤ b.size → Answers (k (s.setBuf b (Mem.write (s.buf b) a os))) P) :
    Answers (s.store b a os k) P :=
  fun t ht => hk (State.store_next ht).1 t (State.store_next ht).2

theorem Answers.send {frame : List Byte} {k : State → Out}
    (hk : frame.length ≤ Buf.txbuf.size → Answers (k (s.transmitted frame)) P) : Answers (s.send frame k) P :=
  fun t ht => hk (State.send_next ht).1 t (State.send_next ht).2

theorem Answers.deliver {frame : List Byte} {k : State → Out} (hne : frame ≠ [])
    (hk : frame.length ≤ Buf.rxbuf.size → Answers (k (s.written .rxbuf 0 frame)) P) : Answers (s.deliver frame k) P := by
  intro t ht
  rcases State.hostWrite_next ht with ⟨he, _⟩ | ⟨_, hfit, ht⟩
  · exact absurd he hne
  · exact hk (by omega) t ht

theorem Answers.mono {out : Out} {Q : State → Status → Prop} (h : Answers out P) (hPQ : ∀ u e, P u e → Q u e) :
    Answers out Q := by
  intro t ht
  obtain ⟨u, e, info, hP, rfl⟩ := h t ht
  exact ⟨u, e, info, hPQ u e hP, rfl⟩

end

/-! ### The states that commands leave -/

/-- The state after an accepted ASDU_BEGIN (44_asdu_codec.md R320). -/
def State.begun (s : State) (c : Config) (sq t pn : Bool) (cot oa : Byte) (ca : BitVec 16) : State :=
  { s with
    abuf := Mem.write s.abuf 0 (beginHeader c sq t pn cot oa ca)
    builder := { active := true, sq := sq, t := t, pn := pn, cot := cot.setWidth 6,
                 oa := if c.cotLen = 2 then oa else 0#8, ca := ca, type := none, raw := false, count := 0#7,
                 firstIoa := 0#24, len := BitVec.ofNat 8 c.hdrLen }
    asduLen := 0#8 }

/-- The state after an accepted ASDU_SET_RAW (44_asdu_codec.md R322). -/
def State.withRaw (s : State) (type count : Byte) (data : List Byte) : State :=
  { s with
    abuf := Mem.write (Mem.write s.abuf 0 [type, vsqOctet s.builder.sq (count.setWidth 7)]) s.builder.len.toNat data
    builder := { s.builder with type := some type, raw := true, count := count.setWidth 7,
                                len := BitVec.ofNat 8 (s.builder.len.toNat + data.length) } }

/-- The state after an accepted ASDU_REWRITE_COT (44_asdu_codec.md R326). -/
def State.rewritten (s : State) (cot : Byte) (pn : Bool) : State :=
  { s with
    abuf := Mem.write (Mem.write s.abuf 0 (Mem.read s.rxbuf s.view.off.toNat s.view.len.toNat)) 2
      [causeOctet s.view.hdr.t pn (cot.setWidth 6)]
    asduLen := s.view.len.setWidth 8
    builder.active := false }

/-- An object that ASDU_GET_ELEMENT can read from a view of a type: its body is decoded from as many octets as the
type's elements have (44_asdu_codec.md R325). -/
structure ReadFrom (c : Config) (type : Byte) (io : IO) : Prop where
  type_eq : io.type = type
  body    : ∃ psize os, psizeOf? c type = some psize ∧ (∀ n, psize = .fixed n → os.length = n.toNat) ∧
              io.body = decOf type os
  ioa_lt  : io.ioa.toNat < 2 ^ (8 * c.ioaLen)

/-! ### The effects -/

/-- What FT12_DECODE can do (45_ft12_link.md R365). -/
inductive FrameEffect (s : State) : State → Status → Prop
  | unchanged : FrameEffect s s .notConfigured
  | invalid {e : Status} (hf : e.fatal = false) : FrameEffect s { s with link.valid := false } e
  | decoded {c : Config} (kind : FrameKind) (ctl : Byte) (a udOff udLen : Nat) (hc : s.config = some c)
      (hud : udOff + udLen ≤ Buf.rxbuf.size) :
      FrameEffect s { s with link := linkOf c.linkMode kind ctl a udOff udLen } .ok

/-- What APCI_RECEIVE can do (46_apci.md R417 to R425). -/
inductive ApduEffect (s : State) : State → Status → Prop
  | unchanged {e : Status} (hf : e.fatal = false) : ApduEffect s s e
  | faulted {c : Config} {e : Status} (hc : s.config = some c) (hf : e.fatal = true) :
      ApduEffect s { s with apci.state := .faulted } e
  | acceptedI {c : Config} {nr : SeqNo} {n : Nat} (hc : s.config = some c)
      (hctrl : classify (s.octetAt .rxbuf 2) = .i) (hnr : s.apci.nrValid nr = true) :
      ApduEffect s { s with apci := s.apci.acceptI c s.apci.vr nr n } .ok
  | acceptedS {c : Config} {nr : SeqNo} (hc : s.config = some c) (hnr : s.apci.nrValid nr = true) :
      ApduEffect s { s with apci := s.apci.acceptS c nr } .ok
  | acceptedU {c : Config} {fn : Ufn} {a : Apci} (hc : s.config = some c)
      (ha : uEffect? c.apciRole (s.apci.heard .u 0#15 0#15 (some fn) 0#16 0#8) fn = some a) :
      ApduEffect s { s with apci := a } .ok
  | unexpectedU {c : Config} {fn : Ufn} (hc : s.config = some c) :
      ApduEffect s { s with apci := s.apci.heard .u 0#15 0#15 (some fn) 0#16 0#8 } .uUnexpected

/-- What ASDU_ADD_IO can do (44_asdu_codec.md R321). -/
inductive ObjectEffect (s : State) : State → Status → Prop
  | unchanged {e : Status} (hf : e.fatal = false) : ObjectEffect s s e
  | added {c : Config} {type : Byte} {ioa : Nat} {body : Body} (hc : s.config = some c)
      (hactive : s.builder.active = true) (hraw : s.builder.raw = false) (hcount : s.builder.count.toNat < 127)
      (hlen : s.builder.len.toNat + (elementPart c s.builder ioa body).length ≤ c.maxAsduLen) :
      ObjectEffect s (s.withElement type ioa (elementPart c s.builder ioa body)) .ok

/-- What an instruction can do, but for the two status registers. The rows that are no commands (log entry 2) do what
ASDU_ADD_IO does, or what APCI_RECEIVE or FT12_DECODE does once their frame is delivered. -/
inductive Effect (s : State) : Instr → State → Status → Prop
  /-- NOP, a check that passes, and every refusal that writes nothing on failure. -/
  | unchanged {i : Instr} {e : Status} (hf : e.fatal = false) : Effect s i s e
  | reset {cfg : ConfigOperand} {c : Config} (hcfg : cfg.config? = some c) (hvalid : c.valid = true) :
      Effect s (.reset cfg) (s.resetWith c) .ok
  | begun {c : Config} {sq t pn : Bool} {cot oa : Byte} {ca : BitVec 16} (hc : s.config = some c)
      (hfit : (beginHeader c sq t pn cot oa ca).length ≤ Buf.abuf.size) :
      Effect s (.asduBegin sq t pn cot oa ca) (s.begun c sq t pn cot oa ca) .ok
  | addIo {io : IOOperand} {u : State} {e : Status} (h : ObjectEffect s u e) : Effect s (.asduAddIo io) u e
  | typeRow {i : Instr} {u : State} {e : Status} (hi : i.space = .asduType) (h : ObjectEffect s u e) : Effect s i u e
  | rawSet {c : Config} {type count : Byte} {data : List Byte} (hc : s.config = some c)
      (hactive : s.builder.active = true) (hlen : s.builder.len.toNat + data.length ≤ c.maxAsduLen)
      (hfit : s.builder.len.toNat + data.length ≤ Buf.abuf.size) :
      Effect s (.asduSetRaw type count data) (s.withRaw type count data) .ok
  | encoded {c : Config} (hc : s.config = some c) : Effect s .asduEncode { s with asduLen := s.builder.len } .ok
  | viewFailed {off len : BitVec 16} {e : Status} (hf : e.fatal = false) :
      Effect s (.asduDecode off len) { s with elem.valid := false, view.valid := false } e
  | viewedUnknown {c : Config} {off len : BitVec 16} {h : Header} (hc : s.config = some c)
      (hfit : off.toNat + len.toNat ≤ Buf.rxbuf.size)
      (hparse : parseAsdu c (Mem.read s.rxbuf off.toNat len.toNat) = .unknown h) :
      Effect s (.asduDecode off len)
        { s with elem.valid := false, view := { valid := true, known := false, off := off, len := len,
                                                psize := .fixed 0#8, hdr := h } } .unknownTypeId
  | viewed {c : Config} {off len : BitVec 16} {h : Header} {psize : PSize} {need : Nat} (hc : s.config = some c)
      (hfit : off.toNat + len.toNat ≤ Buf.rxbuf.size)
      (hparse : parseAsdu c (Mem.read s.rxbuf off.toNat len.toNat) = .good h psize need) :
      Effect s (.asduDecode off len)
        { s with elem.valid := false, view := { valid := true, known := true, off := off, len := BitVec.ofNat 16 need,
                                                psize := psize, hdr := h } } .ok
  | elementFailed {idx : Byte} {e : Status} (hf : e.fatal = false) :
      Effect s (.asduGetElement idx) { s with elem.valid := false } e
  | element {c : Config} {idx : Byte} {io : IO} {e : Status} (hc : s.config = some c)
      (hio : ReadFrom c s.view.hdr.type io) (hf : e.fatal = false) :
      Effect s (.asduGetElement idx) { s with elem := { valid := true, index := idx.setWidth 7, io := io } } e
  | rewritten {c : Config} {cot : Byte} {pn : Bool} (hc : s.config = some c) (hfit : s.view.len.toNat ≤ Buf.abuf.size) :
      Effect s (.asduRewriteCot cot pn) (s.rewritten cot pn) .ok
  | sentFixed {c : Config} {ctl : Byte} {a : BitVec 16} (frame : List Byte) (hc : s.config = some c)
      (hfit : frame.length ≤ Buf.txbuf.size) :
      Effect s (.ft12EncFixed ctl a) (s.transmitted frame) .ok
  | sentVar {c : Config} {ctl : Byte} {a : BitVec 16} (frame : List Byte) (hc : s.config = some c)
      (hfit : frame.length ≤ Buf.txbuf.size) :
      Effect s (.ft12EncVar ctl a) (s.transmitted frame) .ok
  | sentSingle {c : Config} (frame : List Byte) (hc : s.config = some c) (hfit : frame.length ≤ Buf.txbuf.size) :
      Effect s .ft12EncSingle (s.transmitted frame) .ok
  | ft12Decode {len : BitVec 16} {u : State} {e : Status} (h : FrameEffect s u e) : Effect s (.ft12Decode len) u e
  | frameRow {i : Instr} {frame : List Byte} {u : State} {e : Status}
      (hi : i.space = .ft12 ∨ i.space = .ctlUnbalanced ∨ i.space = .ctlBalanced) (hne : frame ≠ [])
      (hfit : frame.length ≤ Buf.rxbuf.size) (h : FrameEffect (s.written .rxbuf 0 frame) u e) : Effect s i u e
  | apciReceive {len : BitVec 16} {u : State} {e : Status} (h : ApduEffect s u e) : Effect s (.apciReceive len) u e
  | apduRow {i : Instr} {ctrl1 ctrl2 ctrl3 ctrl4 : Byte} {tail : List Byte} {u : State} {e : Status}
      (hi : i.space = .apci) (hctrl : classify ctrl1 = .i → ∃ ns7, i = .iFrame ns7 ctrl2 ctrl3 ctrl4 tail)
      (hfit : (apduOctets ctrl1 ctrl2 ctrl3 ctrl4 tail).length ≤ Buf.rxbuf.size)
      (h : ApduEffect (s.written .rxbuf 0 (apduOctets ctrl1 ctrl2 ctrl3 ctrl4 tail)) u e) : Effect s i u e
  | sentI {c : Config} {tag : Tag} (frame : List Byte) (hc : s.config = some c) (hcount : s.apci.winCount < c.k)
      (hfit : frame.length ≤ Buf.txbuf.size) :
      Effect s (.apciSendI tag) { s.transmitted frame with apci := s.apci.sent c.k tag } .ok
  | sentS {c : Config} (frame : List Byte) (hc : s.config = some c) (hfit : frame.length ≤ Buf.txbuf.size) :
      Effect s .apciSendS { s.transmitted frame with apci.unackRx := 0#15 } .ok
  | sentU {c : Config} {fn : Ufn} {a : Apci} (frame : List Byte) (hc : s.config = some c)
      (ha : uSend? c.apciRole s.apci fn = some a) (hfit : frame.length ≤ Buf.txbuf.size) :
      Effect s (.apciSendU fn) { s.transmitted frame with apci := a } .ok
  | reconnected {c : Config} (hc : s.config = some c) : Effect s .apciReset { s with apci := s.apci.fresh } .ok
  /-- A command of the checksum unit; a CHK_CHECK_SECTION that fails is the one with another status than OK. -/
  | summed {i : Instr} {chk : Chk} {e : Status} (hi : i.space = .command) (hf : e.fatal = false) :
      Effect s i { s with chk := chk } e

/-! ### System commands and the checksum unit -/

theorem execReset_answers (cfg : ConfigOperand) (s : State) : Answers (execReset cfg s) (Effect s (.reset cfg)) := by
  unfold execReset
  split
  · exact .raise rfl (.unchanged rfl)
  · next c hcfg => exact .check rfl (.unchanged rfl) fun hvalid => .finish (.reset hcfg hvalid)

theorem execChkAdd_answers (buf : Buf) (off len : BitVec 16) (s : State) :
    Answers (execChkAdd buf off len s) (Effect s (.chkAdd buf off len)) :=
  .configured (.unchanged rfl) fun _ _ => .check rfl (.unchanged rfl) fun _ => .load fun _ => .finish (.summed rfl rfl)

theorem execChkAddElement_answers (s : State) : Answers (execChkAddElement s) (Effect s .chkAddElement) :=
  .configured (.unchanged rfl) fun _ _ =>
  .check rfl (.unchanged rfl) fun _ => .check rfl (.unchanged rfl) fun _ => .finish (.summed rfl rfl)

theorem execChkCheckSection_answers (chs : Byte) (s : State) :
    Answers (execChkCheckSection chs s) (Effect s (.chkCheckSection chs)) :=
  .configured (.unchanged rfl) fun _ _ => .check rfl (.summed rfl rfl) fun _ => .finish (.summed rfl rfl)

/-! ### Builder -/

theorem execAsduBegin_answers (sq t pn : Bool) (cot oa : Byte) (ca : BitVec 16) (s : State) :
    Answers (execAsduBegin sq t pn cot oa ca s) (Effect s (.asduBegin sq t pn cot oa ca)) :=
  .configured (.unchanged rfl) fun _ hc =>
  .check rfl (.unchanged rfl) fun _ =>
  .check rfl (.unchanged rfl) fun _ =>
  .store fun hfit => .finish (.begun hc (by omega))

theorem addObject_answers (type : Byte) (ioa : Nat) (body : Option Body) (s : State) :
    Answers (addObject type ioa body s) (ObjectEffect s) := by
  intro t ht
  rcases addObject_next ht with ⟨e, info, hf, _, rfl⟩ | ⟨c, b, hc, _, hactive, hraw, _, _, _, _, hcount, hlen, rfl⟩
  · exact ⟨s, e, info, .unchanged hf, rfl⟩
  · exact ⟨_, .ok, _, .added hc hactive hraw hcount hlen, rfl⟩

theorem execAsduSetRaw_answers (type count : Byte) (data : List Byte) (s : State) :
    Answers (execAsduSetRaw type count data s) (Effect s (.asduSetRaw type count data)) :=
  .configured (.unchanged rfl) fun _ hc =>
  .check rfl (.unchanged rfl) fun hactive =>
  .check rfl (.unchanged rfl) fun _ =>
  .check rfl (.unchanged rfl) fun _ =>
  .check rfl (.unchanged rfl) fun hlen =>
  .store fun _ => .store fun hfit => .finish (.rawSet hc hactive hlen hfit)

theorem execAsduEncode_answers (s : State) : Answers (execAsduEncode s) (Effect s .asduEncode) :=
  .configured (.unchanged rfl) fun _ hc =>
  .check rfl (.unchanged rfl) fun _ => .check rfl (.unchanged rfl) fun _ => .finish (.encoded hc)

/-! ### View -/

theorem execAsduDecode_answers (off len : BitVec 16) (s : State) :
    Answers (execAsduDecode off len s) (Effect s (.asduDecode off len)) := by
  refine .configured (.unchanged rfl) fun c hc => .check rfl (.viewFailed rfl) fun hfit => .load fun _ => ?_
  split
  · exact .raise rfl (.viewFailed rfl)
  · next h hparse => exact .raise rfl (.viewedUnknown hc hfit hparse)
  · next h psize need hparse => exact .finish (.viewed hc hfit hparse)

theorem fromLE_lt : ∀ os : List Byte, fromLE os < 2 ^ (8 * os.length)
  | [] => by simp [fromLE]
  | b :: bs => by
    have ih := fromLE_lt bs
    have hb := b.isLt
    have hpow : 2 ^ (8 * (b :: bs).length) = 256 * 2 ^ (8 * bs.length) := by
      rw [List.length_cons, Nat.mul_succ, Nat.pow_add, Nat.mul_comm]
    rw [fromLE, hpow]
    omega

/-- An address read from IOA_LEN octets fits an address field. -/
theorem ioa_lt_of_lt {n v : Nat} (h : v < 2 ^ (8 * n)) : (BitVec.ofNat 24 v).toNat < 2 ^ (8 * n) := by
  rw [BitVec.toNat_ofNat]
  exact Nat.lt_of_le_of_lt (Nat.mod_le _ _) h

theorem seekSegment_answers {P : State → Status → Prop} {ioaLen : Nat} {s : State} {k : Nat → Out}
    (hk : ∀ p, Answers (k p) P) : ∀ n p, Answers (seekSegment ioaLen s k n p) P
  | 0, p => hk p
  | n + 1, _ => .load fun _ => seekSegment_answers hk n _

theorem deliverElement_answers {c : Config} {idx : Byte} {io : IO} {s : State} (hc : s.config = some c)
    (hio : ReadFrom c s.view.hdr.type io) : Answers (deliverElement idx io s) (Effect s (.asduGetElement idx)) := by
  unfold deliverElement
  split
  · exact .raise rfl (.element hc hio rfl)
  · exact .finish (.element hc hio rfl)

theorem readElement_answers {c : Config} {psize : PSize} {idx : Byte} {s : State} (hc : s.config = some c)
    (hpsize : psizeOf? c s.view.hdr.type = some psize) :
    Answers (readElement c psize idx s) (Effect s (.asduGetElement idx)) := by
  have haddr (a : Nat) : fromLE (Mem.read s.rxbuf a c.ioaLen) < 2 ^ (8 * c.ioaLen) := by
    simpa using fromLE_lt (Mem.read s.rxbuf a c.ioaLen)
  cases psize with
  | fixed size =>
    have hlen (a : Nat) : ∀ n, PSize.fixed size = .fixed n → (Mem.read s.rxbuf a size.toNat).length = n.toNat := by
      rintro n ⟨⟩
      exact Mem.length_read _ _ _
    simp only [readElement]
    split
    · refine .load fun _ => .load fun _ => deliverElement_answers hc ?_
      exact ⟨rfl, ⟨_, _, hpsize, hlen _, rfl⟩, ioa_lt_of_lt (Nat.mod_lt _ (Nat.two_pow_pos _))⟩
    · refine .load fun _ => .load fun _ => deliverElement_answers hc ?_
      exact ⟨rfl, ⟨_, _, hpsize, hlen _, rfl⟩, ioa_lt_of_lt (haddr _)⟩
  | _ =>
    refine seekSegment_answers (fun p => .load fun _ => .load fun _ => .load fun _ => deliverElement_answers hc ?_) _ _
    exact ⟨rfl, ⟨_, _, hpsize, by rintro n ⟨⟩, rfl⟩, ioa_lt_of_lt (haddr _)⟩

theorem execAsduGetElement_answers (idx : Byte) (s : State) :
    Answers (execAsduGetElement idx s) (Effect s (.asduGetElement idx)) := by
  refine .configured (.unchanged rfl) fun c hc => .check rfl (.elementFailed rfl) fun _ =>
    .check rfl (.elementFailed rfl) fun _ => .check rfl (.elementFailed rfl) fun _ => ?_
  split
  · exact .raise rfl (.elementFailed rfl)
  · next psize hpsize => exact readElement_answers hc hpsize

theorem execAsduRewriteCot_answers (cot : Byte) (pn : Bool) (s : State) :
    Answers (execAsduRewriteCot cot pn s) (Effect s (.asduRewriteCot cot pn)) :=
  .configured (.unchanged rfl) fun _ hc =>
  .check rfl (.unchanged rfl) fun _ =>
  .check rfl (.unchanged rfl) fun _ =>
  .check rfl (.unchanged rfl) fun hlen =>
  .load fun _ => .store fun _ => .store fun _ => .finish (.rewritten hc hlen)

/-! ### FT1.2 unit -/

theorem execFt12EncFixed_answers (ctl : Byte) (a : BitVec 16) (s : State) :
    Answers (execFt12EncFixed ctl a s) (Effect s (.ft12EncFixed ctl a)) :=
  .configured (.unchanged rfl) fun _ hc => .check rfl (.unchanged rfl) fun _ => .send fun hfit =>
  .finish (.sentFixed _ hc hfit)

theorem execFt12EncVar_answers (ctl : Byte) (a : BitVec 16) (s : State) :
    Answers (execFt12EncVar ctl a s) (Effect s (.ft12EncVar ctl a)) :=
  .configured (.unchanged rfl) fun _ hc =>
  .check rfl (.unchanged rfl) fun _ =>
  .check rfl (.unchanged rfl) fun _ =>
  .check rfl (.unchanged rfl) fun _ =>
  .load fun _ => .send fun hfit => .finish (.sentVar _ hc hfit)

theorem execFt12EncSingle_answers (s : State) : Answers (execFt12EncSingle s) (Effect s .ft12EncSingle) :=
  .configured (.unchanged rfl) fun _ hc => .send fun hfit => .finish (.sentSingle _ hc hfit)

/-- The user data of a decoded variable-length frame lies before its checksum and end octets. -/
theorem parseVariable_udLen {n : Nat} {os : List Byte} {ctl : Byte} {a udLen : Nat}
    (h : parseVariable n os = .variable ctl a udLen) : 5 + n + udLen ≤ os.length := by
  simp only [parseVariable] at h
  repeat' split at h
  all_goals cases h
  omega

theorem parseFixed_ne_variable {n : Nat} {os : List Byte} {ctl : Byte} {a udLen : Nat} :
    parseFixed n os ≠ .variable ctl a udLen := by
  intro h
  simp only [parseFixed] at h
  repeat' split at h
  all_goals cases h

theorem parseFrame_udLen {n : Nat} {os : List Byte} {ctl : Byte} {a udLen : Nat}
    (h : parseFrame n os = .variable ctl a udLen) : 5 + n + udLen ≤ os.length := by
  unfold parseFrame at h
  split at h
  · cases h
  · split at h
    · split at h <;> cases h
    · split at h
      · exact absurd h parseFixed_ne_variable
      · split at h
        · exact parseVariable_udLen h
        · cases h

theorem takeFrame_answers {c : Config} {os : List Byte} {s : State} (hc : s.config = some c)
    (hfit : os.length ≤ Buf.rxbuf.size) : Answers (takeFrame c os s) (FrameEffect s) := by
  unfold takeFrame
  split
  · exact .raise rfl (.invalid rfl)
  · exact .raise rfl (.invalid rfl)
  · exact .finish (.decoded .single _ _ 0 0 hc (Nat.zero_le _))
  · exact .finish (.decoded .fixed _ _ 0 0 hc (Nat.zero_le _))
  · next hparse => exact .finish (.decoded .variable _ _ _ _ hc ((parseFrame_udLen hparse).trans hfit))

theorem decodeFrame_answers (len : BitVec 16) (s : State) : Answers (decodeFrame len s) (FrameEffect s) :=
  .configured .unchanged fun _ hc =>
  .check rfl (.invalid rfl) fun hlen =>
  .load fun _ => takeFrame_answers hc (by simpa using hlen)

/-! ### APCI unit -/

theorem receiveI_answers {c : Config} {ns nr : SeqNo} {n : Nat} {s : State} (hc : s.config = some c)
    (hctrl : classify (s.octetAt .rxbuf 2) = .i) : Answers (receiveI c ns nr n s) (ApduEffect s) :=
  .check_fatal rfl (.faulted hc rfl) fun _ =>
  .check_fatal rfl (.faulted hc rfl) fun hns =>
  .check_fatal rfl (.faulted hc rfl) fun hnr => .finish (hns ▸ .acceptedI hc hctrl hnr)

theorem receiveS_answers {c : Config} {nr : SeqNo} {s : State} (hc : s.config = some c) :
    Answers (receiveS c nr s) (ApduEffect s) :=
  .check_fatal rfl (.faulted hc rfl) fun _ => .check_fatal rfl (.faulted hc rfl) fun hnr => .finish (.acceptedS hc hnr)

theorem receiveU_answers {c : Config} {fn : Ufn} {s : State} (hc : s.config = some c) :
    Answers (receiveU c fn s) (ApduEffect s) := by
  unfold receiveU
  split
  · next a ha => exact .finish (.acceptedU hc ha)
  · exact .raise rfl (.unexpectedU hc)

theorem takeApdu_answers {c : Config} {n : Nat} {s : State} (hc : s.config = some c) :
    Answers (takeApdu c (Mem.read s.rxbuf 0 n) s) (ApduEffect s) := by
  refine .check_fatal rfl (.faulted hc rfl) fun hlen => .check_fatal rfl (.faulted hc rfl) fun _ =>
    .check_fatal rfl (.faulted hc rfl) fun _ => ?_
  split
  · next hclass =>
    have hctrl : octet (Mem.read s.rxbuf 0 n) 2 = s.octetAt .rxbuf 2 :=
      Mem.octet_read s.rxbuf 0 n 2 (by rw [Mem.length_read] at hlen; omega)
    exact receiveI_answers hc (hctrl ▸ hclass)
  · exact .check_fatal rfl (.faulted hc rfl) fun _ => receiveS_answers hc
  · exact .check_fatal rfl (.faulted hc rfl) fun _ => receiveU_answers hc
  · exact .check_fatal rfl (.faulted hc rfl) fun _ => .raise_fatal rfl (.faulted hc rfl)

theorem receiveApdu_answers (len : BitVec 16) (s : State) : Answers (receiveApdu len s) (ApduEffect s) :=
  .configured (.unchanged rfl) fun _ hc =>
  .check rfl (.unchanged rfl) fun _ => .check rfl (.unchanged rfl) fun _ => .load fun _ => takeApdu_answers hc

theorem execApciSendI_answers (tag : Tag) (s : State) : Answers (execApciSendI tag s) (Effect s (.apciSendI tag)) :=
  .configured (.unchanged rfl) fun _ hc =>
  .check rfl (.unchanged rfl) fun _ =>
  .check rfl (.unchanged rfl) fun _ =>
  .check rfl (.unchanged rfl) fun hcount =>
  .check rfl (.unchanged rfl) fun _ =>
  .check rfl (.unchanged rfl) fun _ =>
  .load fun _ => .send fun hfit => .finish (.sentI _ hc hcount hfit)

theorem execApciSendS_answers (s : State) : Answers (execApciSendS s) (Effect s .apciSendS) :=
  .configured (.unchanged rfl) fun _ hc =>
  .check rfl (.unchanged rfl) fun _ =>
  .check rfl (.unchanged rfl) fun _ => .send fun hfit => .finish (.sentS _ hc hfit)

theorem execApciSendU_answers (fn : Ufn) (s : State) : Answers (execApciSendU fn s) (Effect s (.apciSendU fn)) := by
  refine .configured (.unchanged rfl) fun c hc => .check rfl (.unchanged rfl) fun _ => ?_
  split
  · exact .raise rfl (.unchanged rfl)
  · next a ha => exact .send fun hfit => .finish (.sentU _ hc ha hfit)

/-! ### Every instruction -/

/-- A row of the type identifiers is ASDU_ADD_IO of an object of its type (log entry 2). -/
theorem exec_asduType {i : Instr} (hi : i.space = .asduType) :
    ∃ type ioa body, ∀ s, exec i s = addTyped type ioa body s := by
  cases i <;> cases hi <;> exact ⟨_, _, _, fun _ => rfl⟩

/-- A row of the APDU formats is the reception of an APDU (log entry 2), and of an I-frame only if it is I_FRAME. -/
theorem exec_apci {i : Instr} (hi : i.space = .apci) :
    ∃ ctrl1 ctrl2 ctrl3 ctrl4 tail, (∀ s, exec i s = receiveFormat ctrl1 ctrl2 ctrl3 ctrl4 tail s) ∧
      (classify ctrl1 = .i → ∃ ns7, i = .iFrame ns7 ctrl2 ctrl3 ctrl4 tail) := by
  cases i with
  | iFrame ns7 ctrl2 ctrl3 ctrl4 tail => exact ⟨_, _, _, _, _, fun _ => rfl, fun _ => ⟨ns7, rfl⟩⟩
  | sFrame | uStartdtAct | uStartdtCon | uStopdtAct | uStopdtCon | uTestfrAct | uTestfrCon =>
    exact ⟨_, _, _, _, _, fun _ => rfl, fun h => absurd h (by decide)⟩
  | _ => cases hi

/-- A row of the FT1.2 formats and function codes is the reception of a frame (log entries 2 and 21). -/
theorem exec_ft12 {i : Instr} (hi : i.space = .ft12 ∨ i.space = .ctlUnbalanced ∨ i.space = .ctlBalanced) :
    ∃ start rest, ∀ s, exec i s = receiveFrame (start :: rest) s := by
  rcases hi with hi | hi | hi
  all_goals cases i <;> cases hi <;> exact ⟨_, _, fun _ => rfl⟩

/-- Everything that an instruction can do. -/
theorem exec_answers (i : Instr) (s : State) : Answers (exec i s) (Effect s i) := by
  have hframe (hi : i.space = .ft12 ∨ i.space = .ctlUnbalanced ∨ i.space = .ctlBalanced) :
      Answers (exec i s) (Effect s i) := by
    obtain ⟨start, rest, hrow⟩ := exec_ft12 hi
    rw [hrow]
    exact .deliver (List.cons_ne_nil _ _) fun hfit =>
      (decodeFrame_answers _ _).mono fun _ _ h => .frameRow hi (List.cons_ne_nil _ _) hfit h
  cases hsp : i.space with
  | asduType =>
    obtain ⟨type, ioa, body, hrow⟩ := exec_asduType hsp
    rw [hrow]
    exact (addObject_answers _ _ _ s).mono fun _ _ h => .typeRow hsp h
  | apci =>
    obtain ⟨_, _, _, _, _, hrow, hctrl⟩ := exec_apci hsp
    rw [hrow]
    exact .deliver (List.cons_ne_nil _ _) fun hfit =>
      (receiveApdu_answers _ _).mono fun _ _ h => .apduRow hsp hctrl hfit h
  | ft12 => exact hframe (.inl hsp)
  | ctlUnbalanced => exact hframe (.inr (.inl hsp))
  | ctlBalanced => exact hframe (.inr (.inr hsp))
  | command =>
    cases i with
    | nop => exact .configured (.unchanged rfl) fun _ _ => .finish (.unchanged rfl)
    | reset cfg => exact execReset_answers cfg s
    | asduBegin sq t pn cot oa ca => exact execAsduBegin_answers sq t pn cot oa ca s
    | asduAddIo io => exact (addObject_answers _ _ _ s).mono fun _ _ h => .addIo h
    | asduSetRaw type count data => exact execAsduSetRaw_answers type count data s
    | asduEncode => exact execAsduEncode_answers s
    | asduDecode off len => exact execAsduDecode_answers off len s
    | asduGetElement idx => exact execAsduGetElement_answers idx s
    | asduRewriteCot cot pn => exact execAsduRewriteCot_answers cot pn s
    | ft12EncFixed ctl a => exact execFt12EncFixed_answers ctl a s
    | ft12EncVar ctl a => exact execFt12EncVar_answers ctl a s
    | ft12EncSingle => exact execFt12EncSingle_answers s
    | ft12Decode len => exact (decodeFrame_answers len s).mono fun _ _ h => .ft12Decode h
    | apciReceive len => exact (receiveApdu_answers len s).mono fun _ _ h => .apciReceive h
    | apciSendI tag => exact execApciSendI_answers tag s
    | apciSendS => exact execApciSendS_answers s
    | apciSendU fn => exact execApciSendU_answers fn s
    | apciReset => exact .configured (.unchanged rfl) fun _ hc => .finish (.reconnected hc)
    | chkResetFile => exact .configured (.unchanged rfl) fun _ _ => .finish (.summed rfl rfl)
    | chkBeginSection => exact .configured (.unchanged rfl) fun _ _ => .finish (.summed rfl rfl)
    | chkAdd buf off len => exact execChkAdd_answers buf off len s
    | chkAddElement => exact execChkAddElement_answers s
    | chkCheckSection chs => exact execChkCheckSection_answers chs s
    | chkCloseSection => exact .configured (.unchanged rfl) fun _ _ => .finish (.summed rfl rfl)
    | chkCheckFile chs =>
      exact .configured (.unchanged rfl) fun _ _ => .check rfl (.unchanged rfl) fun _ => .finish (.unchanged rfl)
    | _ => cases hsp

/-- A next state of an instruction is one of its effects with the two status registers written. -/
theorem exec_next {i : Instr} {s t : State} (h : exec i s = .next t) :
    ∃ u e info, Effect s i u e ∧ t = u.withStatus e info := exec_answers i s t h

end Sys2Proof.Machine
end

section
/-! ## Rules of the whole machine: configuration, counters, window -/

namespace Sys2Proof.Machine

/-! ### The frame of the shared operations -/

theorem ObjectEffect.frame {s u : State} {e : Status} (h : ObjectEffect s u e) :
    u = { s with abuf := u.abuf, builder := u.builder } := by
  cases h <;> rfl

theorem FrameEffect.frame {s u : State} {e : Status} (h : FrameEffect s u e) : u = { s with link := u.link } := by
  cases h <;> rfl

theorem ApduEffect.frame {s u : State} {e : Status} (h : ApduEffect s u e) : u = { s with apci := u.apci } := by
  cases h <;> rfl

/-! ### Configuration (10_state.md R32) -/

theorem Effect.config_eq {s u : State} {i : Instr} {e : Status} (h : Effect s i u e) (hi : ∀ cfg, i ≠ .reset cfg) :
    u.config = s.config := by
  cases h with
  | reset _ _ => exact absurd rfl (hi _)
  | addIo h | typeRow _ h => rw [h.frame]
  | ft12Decode h | apciReceive h => rw [h.frame]
  | frameRow _ _ _ h | apduRow _ _ _ h => rw [h.frame]; rfl
  | _ => rfl

/-- Settles O46: RESET is the only effect that writes CONFIG. -/
theorem onlyResetConfigures : Obligations.OnlyResetConfigures := by
  intro i s t h hi
  obtain ⟨u, e, info, heff, rfl⟩ := exec_next h
  exact heff.config_eq hi

/-! ### What the APCI operations leave unchanged -/

/-- STOPDT completion writes A_STATE and RESP_STOPDT_CON only (46_apci.md R430). -/
theorem Apci.completeStop_frame (a : Apci) (role : ApciRole) :
    a.completeStop role =
      { a with state := (a.completeStop role).state, respStopdtCon := (a.completeStop role).respStopdtCon } := by
  unfold Apci.completeStop
  split <;> rfl

theorem Apci.acceptS_frame (a : Apci) (c : Config) (nr : SeqNo) :
    a.acceptS c nr =
      { (a.heard .s 0#15 nr none 0#16 0#8).retire c.k nr with
        state := (a.acceptS c nr).state, respStopdtCon := (a.acceptS c nr).respStopdtCon } :=
  Apci.completeStop_frame _ _

theorem Apci.acceptI_frame (a : Apci) (c : Config) (ns nr : SeqNo) (n : Nat) :
    a.acceptI c ns nr n =
      { (a.heard .i ns nr none 6#16 (BitVec.ofNat 8 n)).retire c.k nr with
        state := (a.acceptI c ns nr n).state, respStopdtCon := (a.acceptI c ns nr n).respStopdtCon,
        vr := a.vr + 1#15, unackRx := (a.acceptI c ns nr n).unackRx } := by
  unfold Apci.acceptI Apci.countRx
  rw [Apci.completeStop_frame]
  rfl

/-- A received U-frame writes A_STATE and the flags of the U-frame exchanges only (46_apci.md R420 to R425). -/
theorem uEffect?_frame {role : ApciRole} {a a' : Apci} {fn : Ufn} (h : uEffect? role a fn = some a') :
    a' = { a with state := a'.state, startdtPending := a'.startdtPending, stopdtPending := a'.stopdtPending,
                  testOutstanding := a'.testOutstanding, respStartdtCon := a'.respStartdtCon,
                  respStopdtCon := a'.respStopdtCon, respTestfrCon := a'.respTestfrCon } := by
  cases fn
  all_goals
    simp only [uEffect?] at h
    repeat' split at h
    all_goals cases h <;> rfl

/-- Sending a U-frame writes A_STATE and the flags of the U-frame exchanges only (46_apci.md R428). -/
theorem uSend?_frame {role : ApciRole} {a a' : Apci} {fn : Ufn} (h : uSend? role a fn = some a') :
    a' = { a with state := a'.state, startdtPending := a'.startdtPending, stopdtPending := a'.stopdtPending,
                  testOutstanding := a'.testOutstanding, respStartdtCon := a'.respStartdtCon,
                  respStopdtCon := a'.respStopdtCon, respTestfrCon := a'.respTestfrCon } := by
  cases fn
  all_goals
    simp only [uSend?] at h
    repeat' split at h
    all_goals cases h <;> rfl

/-! ### Sequence counters (10_state.md R45, R46) -/

/-- APCI_RECEIVE never moves VS, and moves VR only where it accepts an I-frame with N(S) = VR. -/
theorem ApduEffect.counters {s u : State} {e : Status} (h : ApduEffect s u e) :
    u.apci.vs = s.apci.vs ∧
    (u.apci.vr = s.apci.vr ∨ (u.apci.vr = s.apci.vr + 1#15 ∧ e = .ok ∧ u.apci.rx.kind = .i ∧
      u.apci.rx.ns = s.apci.vr ∧ classify (s.octetAt .rxbuf 2) = .i)) := by
  cases h with
  | unchanged _ | faulted _ _ | unexpectedU _ => exact ⟨rfl, .inl rfl⟩
  | acceptedI hc hctrl hnr =>
    rw [Apci.acceptI_frame]
    exact ⟨rfl, .inr ⟨rfl, rfl, rfl, rfl, hctrl⟩⟩
  | acceptedS hc hnr =>
    rw [Apci.acceptS_frame]
    exact ⟨rfl, .inl rfl⟩
  | acceptedU hc ha =>
    rw [uEffect?_frame ha]
    exact ⟨rfl, .inl rfl⟩

/-- Writing one octet leaves the others, whatever the form of the contents. -/
theorem Mem.get_set_ne {a a' : Nat} (b : Byte) (h : a' ≠ a) : ∀ m : Mem, Mem.get (Mem.set m a b) a' = Mem.get m a'
  | [] => by
    by_cases hb : b = 0#8 <;> simp [Mem.set, Mem.get, hb, h]
  | (k, v) :: m => by
    have ih := Mem.get_set_ne b h m
    unfold Mem.set
    split
    · split <;> simp [Mem.get, h]
    · split
      · next hk => subst hk; split <;> simp [Mem.get, h]
      · simp [Mem.get, ih]

/-- An octet that is not 0 reads back, whatever the form of the contents. -/
theorem Mem.get_set_self {a : Nat} {b : Byte} (hb : b ≠ 0#8) : ∀ m : Mem, Mem.get (Mem.set m a b) a = b
  | [] => by simp [Mem.set, Mem.get, hb]
  | (k, v) :: m => by
    have ih := Mem.get_set_self (a := a) hb m
    simp only [Mem.set, if_neg hb]
    split
    · simp [Mem.get]
    · split
      · simp [Mem.get]
      · next hk => simp [Mem.get, hk, ih]

/-- A write leaves the octets below it, whatever the form of the contents. -/
theorem Mem.get_write_below : ∀ (os : List Byte) (m : Mem) {a a' : Nat}, a' < a →
    Mem.get (Mem.write m a os) a' = Mem.get m a'
  | [], _, _, _, _ => rfl
  | b :: bs, m, a, a', h => by
    rw [Mem.write, Mem.get_write_below bs (Mem.set m a b) (Nat.lt_succ_of_lt h), Mem.get_set_ne b (Nat.ne_of_lt h)]

/-- The control octet of a delivered S- or U-frame stands at RXBUF[2], so that it is not taken for an I-frame. -/
theorem classify_delivered_ne_i {s : State} {ctrl1 ctrl2 ctrl3 ctrl4 : Byte} {tail : List Byte}
    (h : classify ctrl1 ≠ .i) :
    classify ((s.written .rxbuf 0 (apduOctets ctrl1 ctrl2 ctrl3 ctrl4 tail)).octetAt .rxbuf 2) ≠ .i := by
  have hne : ctrl1 ≠ 0#8 := by rintro rfl; exact h rfl
  have hget : (s.written .rxbuf 0 (apduOctets ctrl1 ctrl2 ctrl3 ctrl4 tail)).octetAt .rxbuf 2 = ctrl1 :=
    (Mem.get_write_below ([ctrl2, ctrl3, ctrl4] ++ tail)
      (((s.rxbuf.set 0 0x68#8).set 1 (BitVec.ofNat 8 (4 + tail.length))).set 2 ctrl1) (by decide)).trans
      (Mem.get_set_self hne _)
  rwa [hget]

/-- Settles O49: VS and VR move with the effects that send and accept an I-frame, and with the two resets. -/
theorem countersMove : Obligations.CountersMove := by
  intro i s t h
  obtain ⟨u, e, info, heff, rfl⟩ := exec_next h
  simp only [State.withStatus_apci, State.withStatus_status]
  cases heff with
  | reset _ _ => exact ⟨.inr (.inr ⟨rfl, .inr ⟨_, rfl⟩⟩), .inr (.inr ⟨rfl, .inr ⟨_, rfl⟩⟩)⟩
  | reconnected _ => exact ⟨.inr (.inr ⟨rfl, .inl rfl⟩), .inr (.inr ⟨rfl, .inl rfl⟩)⟩
  | sentI _ _ _ _ => exact ⟨.inr (.inl ⟨rfl, rfl, _, rfl⟩), .inl rfl⟩
  | sentU _ _ ha _ => rw [uSend?_frame ha]; exact ⟨.inl rfl, .inl rfl⟩
  | addIo h | typeRow _ h | ft12Decode h | frameRow _ _ _ h => rw [h.frame]; exact ⟨.inl rfl, .inl rfl⟩
  | apciReceive h =>
    obtain ⟨hvs, hvr | ⟨hvr, rfl, hkind, hns, _⟩⟩ := h.counters
    · exact ⟨.inl hvs, .inl hvr⟩
    · exact ⟨.inl hvs, .inr (.inl ⟨hvr, rfl, hkind, hns, .inl ⟨_, rfl⟩⟩)⟩
  | apduRow _ hctrl _ h =>
    obtain ⟨hvs, hvr | ⟨hvr, rfl, hkind, hns, hclass⟩⟩ := h.counters
    · exact ⟨.inl hvs, .inl hvr⟩
    · have hi := hctrl (by_contra fun hn => classify_delivered_ne_i hn hclass)
      obtain ⟨ns7, rfl⟩ := hi
      exact ⟨.inl hvs, .inr (.inl ⟨hvr, rfl, hkind, hns, .inr ⟨_, _, _, _, _, rfl⟩⟩)⟩
  | _ => exact ⟨.inl rfl, .inl rfl⟩

/-! ### The window (10_state.md R48) -/

/-- The bounds of K that a valid configuration gives (00_scope.md R11). -/
theorem Config.valid_k {c : Config} (h : c.valid = true) : 1 ≤ c.k ∧ c.k ≤ 32767 := by
  simp only [Config.valid, Bool.and_eq_true, decide_eq_true_eq] at h
  omega

/-- A valid N(R) retires the entries before it: all but those from N(R) to VS - 1 (46_apci.md R414, R415). -/
theorem Apci.retireCount_eq {a : Apci} {r : SeqNo} (hcount : a.winCount ≤ 32767) (hnr : a.nrValid r = true) :
    a.retireCount r = a.winCount - (a.vs - r).toNat := by
  simp only [Apci.nrValid, decide_eq_true_eq] at hnr
  unfold Apci.retireCount Apci.oldest
  split
  · omega
  · bv_omega

theorem Apci.entry_mod_add (a : Apci) (k m j : Nat) : a.entry k (m % k + j) = a.entry k (m + j) := by
  simp only [Apci.entry, Nat.mod_add_mod]

/-- Entries leave from the old end: those that stay keep their numbers (46_apci.md R415). -/
theorem windowOk_drop {c : Config} {a a' : Apci} {n : Nat} (hk : 1 ≤ c.k) (h : windowOk c a) (hn : n ≤ a.winCount)
    (hwin : a'.win = a.win) (hold : a'.winOldest = (a.winOldest + n) % c.k) (hcount : a'.winCount = a.winCount - n)
    (hvs : a'.vs = a.vs) : windowOk c a' := by
  obtain ⟨hlen, _, hle, hseq⟩ := h
  refine ⟨hwin ▸ hlen, hold ▸ Nat.mod_lt _ hk, by omega, fun j hj => ?_⟩
  have hentry : a'.entry c.k (a'.winOldest + j) = a.entry c.k (a.winOldest + (n + j)) := by
    rw [hold, Apci.entry_mod_add, Nat.add_assoc, Apci.entry, Apci.entry, hwin]
  rw [hentry, hseq (n + j) (by omega), hvs, hcount]
  bv_omega

theorem windowOk_retire {c : Config} {a : Apci} {r : SeqNo} (hc : c.valid = true) (h : windowOk c a)
    (hnr : a.nrValid r = true) : windowOk c (a.retire c.k r) := by
  obtain ⟨hk, hk'⟩ := Config.valid_k hc
  have ⟨_, _, hle, _⟩ := h
  have hn : a.retireCount r ≤ a.winCount := by
    rw [Apci.retireCount_eq (hle.trans hk') hnr]
    exact Nat.sub_le _ _
  exact windowOk_drop hk h hn rfl rfl rfl rfl

/-- Indices less than K apart are different places of the ring. -/
theorem ring_index_ne {k m i j : Nat} (hij : i < j) (hj : j < k) : (m + i) % k ≠ (m + j) % k := fun h =>
  have hmod : i ≡ j [MOD k] := Nat.ModEq.add_left_cancel' m h
  absurd (hmod.eq_of_lt_of_lt (hij.trans hj) hj) (Nat.ne_of_lt hij)

/-- A sent I-frame enters at the new end with the number VS (46_apci.md R426). -/
theorem windowOk_sent {c : Config} {a : Apci} {tag : Tag} (hc : c.valid = true) (h : windowOk c a)
    (hcount : a.winCount < c.k) : windowOk c (a.sent c.k tag) := by
  obtain ⟨hk, hk'⟩ := Config.valid_k hc
  obtain ⟨hlen, hold, _, hseq⟩ := h
  refine ⟨by simpa [Apci.sent] using hlen, hold, hcount, fun j hj => ?_⟩
  rcases Nat.lt_succ_iff_lt_or_eq.mp hj with hj | rfl
  · have hentry : (a.sent c.k tag).entry c.k (a.winOldest + j) = a.entry c.k (a.winOldest + j) := by
      simp [Apci.entry, Apci.sent, List.getD_eq_getElem?_getD, List.getElem?_set_ne (ring_index_ne hj hcount).symm]
    calc ((a.sent c.k tag).entry c.k (a.winOldest + j)).seq
        = a.vs - BitVec.ofNat 15 a.winCount + BitVec.ofNat 15 j := by rw [hentry, hseq j hj]
      _ = a.vs + 1#15 - BitVec.ofNat 15 (a.winCount + 1) + BitVec.ofNat 15 j := by bv_omega
  · have hindex : (a.winOldest + a.winCount) % c.k < a.win.length := by
      rw [hlen]
      exact Nat.mod_lt _ hk
    have hentry : (a.sent c.k tag).entry c.k (a.winOldest + a.winCount) = { seq := a.vs, tag := tag } := by
      simp [Apci.entry, Apci.sent, List.getD_eq_getElem?_getD, hindex]
    calc ((a.sent c.k tag).entry c.k (a.winOldest + a.winCount)).seq
        = a.vs := by rw [hentry]
      _ = a.vs + 1#15 - BitVec.ofNat 15 (a.winCount + 1) + BitVec.ofNat 15 a.winCount := by bv_omega

/-- With no live entry only the length of the ring counts. -/
theorem windowOk_empty {c : Config} {a : Apci} (hc : c.valid = true) (hlen : a.win.length = c.k)
    (hold : a.winOldest = 0) (hcount : a.winCount = 0) : windowOk c a :=
  ⟨hlen, by have := Config.valid_k hc; omega, by omega, fun j hj => by omega⟩

/-- The configuration is in range and the window meets R48 under it. -/
def State.WindowOk (s : State) : Prop := s.ConfigOk ∧ ∀ c, s.config = some c → windowOk c s.apci

theorem ApduEffect.keeps_window {s u : State} {e : Status} (h : ApduEffect s u e) (hs : s.WindowOk) : u.WindowOk := by
  obtain ⟨hconfig, hwindow⟩ := hs
  refine ⟨by rw [h.frame]; exact hconfig, fun c hc => ?_⟩
  replace hc : s.config = some c := by rw [h.frame] at hc; exact hc
  have hw := hwindow c hc
  have hvalid := hconfig c hc
  cases h with
  | unchanged _ | faulted _ _ | unexpectedU _ => exact hw
  | acceptedI hc' _ hnr =>
    obtain rfl := Option.some.inj (hc.symm.trans hc')
    rw [Apci.acceptI_frame]
    exact windowOk_retire (a := s.apci.heard ..) hvalid hw hnr
  | acceptedS hc' hnr =>
    obtain rfl := Option.some.inj (hc.symm.trans hc')
    rw [Apci.acceptS_frame]
    exact windowOk_retire (a := s.apci.heard ..) hvalid hw hnr
  | acceptedU _ ha => rw [uEffect?_frame ha]; exact hw

theorem Effect.keeps_window {s u : State} {i : Instr} {e : Status} (h : Effect s i u e) (hs : s.WindowOk) :
    u.WindowOk := by
  cases h with
  | @reset _ c _ hvalid =>
    refine ⟨fun c' hc => ?_, fun c' hc => ?_⟩ <;> obtain rfl := Option.some.inj hc
    · exact hvalid
    · exact windowOk_empty hvalid List.length_replicate rfl rfl
  | reconnected _ =>
    exact ⟨hs.1, fun c hc => windowOk_empty (hs.1 c hc) (hs.2 c hc).1 rfl rfl⟩
  | sentI _ hc' hcount _ =>
    refine ⟨hs.1, fun c hc => ?_⟩
    obtain rfl := Option.some.inj (hc'.symm.trans hc)
    exact windowOk_sent (hs.1 _ hc) (hs.2 _ hc) hcount
  | sentU _ _ ha _ => rw [uSend?_frame ha]; exact hs
  | addIo h | typeRow _ h | ft12Decode h | frameRow _ _ _ h => rw [h.frame]; exact hs
  | apciReceive h => exact h.keeps_window hs
  | apduRow _ _ _ h => exact h.keeps_window hs
  | _ => exact hs

/-! ### Steps -/

/-- What a predicate must keep to be kept by every step: the effects of instructions, and the host's writes. -/
structure StepClosed (P : State → Prop) : Prop where
  input   : ∀ {s} rest, P s → P { s with input := rest }
  status  : ∀ {s} e info, P s → P (s.withStatus e info)
  asduLen : ∀ {s} v, P s → P { s with asduLen := v }
  written : ∀ {s} b a os, P s → a + os.length ≤ b.size → P (s.written b a os)
  effect  : ∀ {s i u e}, P s → Effect s i u e → P u

theorem StepClosed.step {P : State → Prop} (hP : StepClosed P) {s t : State} (hs : P s) (h : step s = .next t) :
    P t := by
  rcases step_next h with ⟨_, rfl⟩ | ⟨action, rest, _, h⟩
  · exact hs
  have hs' : P { s with input := rest } := hP.input rest hs
  rcases takeAction_next h with ⟨_, _, _, _, _, _, hexec⟩ | ⟨_, _, _, _, rfl⟩ | ⟨_, _, _, _, _, rfl⟩ |
    ⟨b, addr, os, _, _, hfit, rfl⟩ | ⟨_, _, rfl⟩ | ⟨_, _, _, rfl⟩
  · obtain ⟨u, e, info, heff, rfl⟩ := exec_next hexec
    exact hP.status e info (hP.effect hs' heff)
  · exact hP.status _ _ hs'
  · exact hs'
  · exact hP.written b _ os hs' hfit
  · exact hP.asduLen _ hs'
  · exact hs'

theorem stepClosed_windowOk : StepClosed State.WindowOk where
  input _ hs := hs
  status _ _ hs := hs
  asduLen _ hs := hs
  written b _ _ hs _ := by cases b <;> exact hs
  effect hs h := h.keeps_window hs

/-- Settles O56: every effect and every write of the host keeps the window. -/
theorem stepKeepsWindow : Obligations.StepKeepsWindow := by
  intro s t hconfig hwindow h
  exact stepClosed_windowOk.step ⟨hconfig, hwindow⟩ h

end Sys2Proof.Machine
end

section
/-! ## The invariant of the machine: buffers, status, configuration -/

namespace Sys2Proof.Machine

/-! ### Buffers (20_memory.md R70) -/

/-- Contents of a buffer of a size: canonical, and no octet listed outside it. -/
def Mem.Ok (size : Nat) (m : Mem) : Prop := Mem.wf m = true ∧ Mem.inBounds size m = true

theorem Mem.Ok.write {size : Nat} {m : Mem} (h : Mem.Ok size m) {a : Nat} {os : List Byte}
    (hfit : a + os.length ≤ size) : Mem.Ok size (Mem.write m a os) :=
  ⟨Mem.wf_write a os h.1, Mem.inBounds_write a os h.2 hfit⟩

theorem State.memOk_iff {s : State} :
    s.MemOk ↔ Mem.Ok Buf.rxbuf.size s.rxbuf ∧ Mem.Ok Buf.txbuf.size s.txbuf ∧ Mem.Ok Buf.abuf.size s.abuf := by
  refine ⟨fun h => ⟨h .rxbuf, h .txbuf, h .abuf⟩, fun ⟨hrx, htx, hab⟩ b => ?_⟩
  cases b
  · exact hrx
  · exact htx
  · exact hab

/-- The bounds of the lengths that a valid configuration gives (00_scope.md R6 to R10). -/
theorem Config.valid_lengths {c : Config} (h : c.valid = true) :
    1 ≤ c.cotLen ∧ c.cotLen ≤ 2 ∧ 1 ≤ c.caLen ∧ c.caLen ≤ 2 ∧ 1 ≤ c.ioaLen ∧ c.ioaLen ≤ 3 ∧
      c.hdrLen + 1 ≤ c.maxAsduLen ∧ c.maxAsduLen ≤ 255 := by
  simp only [Config.valid, Bool.and_eq_true, Bool.or_eq_true, decide_eq_true_eq] at h
  omega

theorem written_memOk {s : State} {b : Buf} {a : Nat} {os : List Byte} (hs : s.MemOk)
    (hfit : a + os.length ≤ b.size) : (s.written b a os).MemOk := by
  obtain ⟨hrx, htx, hab⟩ := State.memOk_iff.mp hs
  rw [State.memOk_iff]
  cases b
  · exact ⟨hrx.write hfit, htx, hab⟩
  · exact ⟨hrx, htx.write hfit, hab⟩
  · exact ⟨hrx, htx, hab.write hfit⟩

theorem transmitted_memOk {s : State} {frame : List Byte} (hs : s.MemOk) (hfit : frame.length ≤ Buf.txbuf.size) :
    (s.transmitted frame).MemOk := by
  obtain ⟨hrx, htx, hab⟩ := State.memOk_iff.mp hs
  exact State.memOk_iff.mpr ⟨hrx, htx.write (by omega), hab⟩

theorem ObjectEffect.keeps_memOk {s u : State} {e : Status} (h : ObjectEffect s u e) (hconfig : s.ConfigOk)
    (hs : s.MemOk) : u.MemOk := by
  cases h with
  | unchanged _ => exact hs
  | added hc _ _ _ hlen =>
    obtain ⟨hrx, htx, hab⟩ := State.memOk_iff.mp hs
    obtain ⟨_, _, _, _, _, _, _, hmax⟩ := Config.valid_lengths (hconfig _ hc)
    refine State.memOk_iff.mpr ⟨hrx, htx, ((hab.write (hlen.trans hmax)).write ?_).write (by simp [Buf.size])⟩
    split <;> simp [Buf.size]

theorem Effect.keeps_memOk {s u : State} {i : Instr} {e : Status} (h : Effect s i u e) (hconfig : s.ConfigOk)
    (hs : s.MemOk) : u.MemOk := by
  obtain ⟨hrx, htx, hab⟩ := State.memOk_iff.mp hs
  cases h with
  | begun _ hfit => exact State.memOk_iff.mpr ⟨hrx, htx, hab.write (by omega)⟩
  | rawSet _ _ _ hfit => exact State.memOk_iff.mpr ⟨hrx, htx, (hab.write (by simp [Buf.size])).write hfit⟩
  | rewritten _ hfit =>
    refine State.memOk_iff.mpr ⟨hrx, htx, (hab.write ?_).write (by simp [Buf.size])⟩
    rwa [Mem.length_read, Nat.zero_add]
  | sentFixed _ _ hfit | sentVar _ _ hfit | sentSingle _ _ hfit
  | sentI _ _ _ hfit | sentS _ _ hfit | sentU _ _ _ hfit => exact transmitted_memOk hs hfit
  | addIo h | typeRow _ h => exact h.keeps_memOk hconfig hs
  | ft12Decode h | apciReceive h => rw [h.frame]; exact hs
  | frameRow _ _ hfit h | apduRow _ _ hfit h =>
    rw [h.frame]
    exact written_memOk (b := .rxbuf) hs (by omega)
  | _ => exact State.memOk_iff.mpr ⟨hrx, htx, hab⟩

/-! ### STATUS and TX_LEN -/

theorem Effect.keeps_statusOk {s u : State} {i : Instr} {e : Status} (h : Effect s i u e) (hs : s.StatusOk) :
    u.StatusOk := by
  cases h with
  | reset _ _ => exact ⟨.ok, rfl⟩
  | addIo h | typeRow _ h | ft12Decode h | apciReceive h | frameRow _ _ _ h | apduRow _ _ _ h =>
    rw [h.frame]
    exact hs
  | _ => exact hs

theorem transmitted_txLen_le {s : State} {frame : List Byte} (hfit : frame.length ≤ Buf.txbuf.size) :
    (s.transmitted frame).txLen.toNat ≤ Buf.txbuf.size :=
  (BitVec.toNat_ofNat ..).trans_le ((Nat.mod_le _ _).trans hfit)

theorem Effect.keeps_txLen {s u : State} {i : Instr} {e : Status} (h : Effect s i u e)
    (hs : s.txLen.toNat ≤ Buf.txbuf.size) : u.txLen.toNat ≤ Buf.txbuf.size := by
  cases h with
  | reset _ _ => exact Nat.zero_le _
  | sentFixed _ _ hfit | sentVar _ _ hfit | sentSingle _ _ hfit
  | sentI _ _ _ hfit | sentS _ _ hfit | sentU _ _ _ hfit => exact transmitted_txLen_le (s := s) hfit
  | addIo h | typeRow _ h | ft12Decode h | apciReceive h | frameRow _ _ _ h | apduRow _ _ _ h =>
    rw [h.frame]
    exact hs
  | _ => exact hs

/-! ### Before the first RESET (70_reset_and_hazards.md R542) -/

theorem FrameEffect.keeps_unconfigured {s u : State} {e : Status} (h : FrameEffect s u e) (hn : s.config = none)
    (hs : s.Unconfigured) : u.Unconfigured := by
  obtain ⟨hbuilder, hview, helem, hlink, hapci, htx⟩ := hs
  cases h with
  | unchanged => exact ⟨hbuilder, hview, helem, hlink, hapci, htx⟩
  | invalid _ => exact ⟨hbuilder, hview, helem, rfl, hapci, htx⟩
  | decoded _ _ _ _ _ hc _ => cases hc.symm.trans hn

theorem ApduEffect.keeps_unconfigured {s u : State} {e : Status} (h : ApduEffect s u e) (hn : s.config = none)
    (hs : s.Unconfigured) : u.Unconfigured := by
  cases h with
  | unchanged _ => exact hs
  | faulted hc _ | acceptedI hc _ _ | acceptedS hc _ | acceptedU hc _ | unexpectedU hc => cases hc.symm.trans hn

theorem ObjectEffect.keeps_unconfigured {s u : State} {e : Status} (h : ObjectEffect s u e) (hn : s.config = none)
    (hs : s.Unconfigured) : u.Unconfigured := by
  cases h with
  | unchanged _ => exact hs
  | added hc _ _ _ _ => cases hc.symm.trans hn

theorem written_unconfigured {s : State} {b : Buf} {a : Nat} {os : List Byte} (hs : s.Unconfigured) :
    (s.written b a os).Unconfigured := by
  obtain ⟨hbuilder, hview, helem, hlink, hapci, htx⟩ := hs
  cases b
  · exact ⟨hbuilder, rfl, rfl, hlink, hapci, htx⟩
  · exact ⟨hbuilder, hview, helem, hlink, hapci, htx⟩
  · exact ⟨rfl, hview, helem, hlink, hapci, htx⟩

theorem Effect.keeps_unconfigured {s u : State} {i : Instr} {e : Status} (h : Effect s i u e)
    (hs : s.config = none → s.Unconfigured) (hn : u.config = none) : u.Unconfigured := by
  cases h with
  | reset _ _ => cases hn
  | unchanged _ | summed _ _ => exact hs hn
  | viewFailed _ =>
    obtain ⟨hbuilder, _, _, hlink, hapci, htx⟩ := hs hn
    exact ⟨hbuilder, rfl, rfl, hlink, hapci, htx⟩
  | elementFailed _ =>
    obtain ⟨hbuilder, hview, _, hlink, hapci, htx⟩ := hs hn
    exact ⟨hbuilder, hview, rfl, hlink, hapci, htx⟩
  | addIo h | typeRow _ h | ft12Decode h | apciReceive h =>
    have hn' : s.config = none := by rw [h.frame] at hn; exact hn
    exact h.keeps_unconfigured hn' (hs hn')
  | frameRow _ _ _ h | apduRow _ _ _ h =>
    have hn' : s.config = none := by rw [h.frame] at hn; exact hn
    exact h.keeps_unconfigured hn' (written_unconfigured (hs hn'))
  | begun hc _ | rawSet hc _ _ _ | encoded hc | viewedUnknown hc _ _ | viewed hc _ _ | element hc _ _ | rewritten hc _
  | sentFixed _ hc _ | sentVar _ hc _ | sentSingle _ hc _ | sentI _ hc _ _ | sentS _ hc _ | sentU _ hc _ _
  | reconnected hc => cases hc.symm.trans hn

end Sys2Proof.Machine
end

section
/-! ## The invariant of the machine: the units -/

namespace Sys2Proof.Machine

/-! ### Builder (10_state.md R37) -/

/-- The first object of a list takes at least the octets of its address. -/
theorem elementPart_length_pos {c : Config} {b : Builder} {ioa : Nat} {body : Body} (hc : 1 ≤ c.ioaLen)
    (hcount : b.count = 0#7) : 0 < (elementPart c b ioa body).length := by
  obtain ⟨n, hn⟩ := Nat.exists_eq_add_of_le' hc
  simp [elementPart, hcount, hn, leOctets]

/-- An object makes the ASDU longer than its header, and the count cannot wrap (44_asdu_codec.md R321). -/
theorem builderOk_added {c : Config} {b : Builder} {type : Byte} {ioa : Nat} {body : Body} (hc : c.valid = true)
    (hs : builderOk c b) (hactive : b.active = true) (hraw : b.raw = false) (hcount : b.count.toNat < 127)
    (hlen : b.len.toNat + (elementPart c b ioa body).length ≤ c.maxAsduLen) :
    builderOk c (b.added type ioa (elementPart c b ioa body).length) := by
  obtain ⟨_, _, _, _, hioa, _, _, hmax⟩ := Config.valid_lengths hc
  obtain ⟨hhdr, _, hnone, hsome⟩ := hs hactive
  have hlen' : (b.added type ioa (elementPart c b ioa body).length).len.toNat =
      b.len.toNat + (elementPart c b ioa body).length := by
    simp only [Builder.added, BitVec.toNat_ofNat]
    omega
  have hcount' : b.count + 1#7 ≠ 0#7 := by bv_omega
  rw [builderOk, hlen']
  refine fun _ => ⟨by omega, hlen, fun htype => ?_, fun _ _ => ⟨hcount', ?_⟩⟩
  · by_cases h0 : b.count = 0#7
    · simp [Builder.added, h0] at htype
    · simp only [Builder.added, if_neg h0] at htype
      exact absurd (hnone htype).1 h0
  · by_cases htype : b.type = none
    · have := elementPart_length_pos (ioa := ioa) (body := body) hioa (hnone htype).1
      omega
    · have := (hsome htype hraw).2
      omega

theorem builderOk_begun {c : Config} {s : State} {sq t pn : Bool} {cot oa : Byte} {ca : BitVec 16}
    (hc : c.valid = true) : builderOk c (s.begun c sq t pn cot oa ca).builder := by
  obtain ⟨_, _, _, _, _, _, hhdr, hmax⟩ := Config.valid_lengths hc
  have hlen : (s.begun c sq t pn cot oa ca).builder.len.toNat = c.hdrLen :=
    (BitVec.toNat_ofNat ..).trans (Nat.mod_eq_of_lt (by omega))
  exact fun _ => ⟨hlen.ge, by omega, fun _ => ⟨rfl, rfl, hlen⟩, fun htype => absurd rfl htype⟩

theorem builderOk_withRaw {c : Config} {s : State} {type count : Byte} {data : List Byte} (hc : c.valid = true)
    (hs : builderOk c s.builder) (hactive : s.builder.active = true)
    (hfit : s.builder.len.toNat + data.length ≤ c.maxAsduLen) : builderOk c (s.withRaw type count data).builder := by
  obtain ⟨_, _, _, _, _, _, _, hmax⟩ := Config.valid_lengths hc
  obtain ⟨hhdr, _, _, _⟩ := hs hactive
  have hlen : (s.withRaw type count data).builder.len.toNat = s.builder.len.toNat + data.length :=
    (BitVec.toNat_ofNat ..).trans (Nat.mod_eq_of_lt (by omega))
  refine fun _ => ⟨by omega, by omega, fun htype => ?_, fun _ hraw => ?_⟩
  · cases htype
  · cases hraw

theorem ObjectEffect.keeps_builder {s u : State} {e : Status} (h : ObjectEffect s u e) (hconfig : s.ConfigOk)
    (hs : ∀ c, s.config = some c → builderOk c s.builder) {c : Config} (hc : s.config = some c) :
    builderOk c u.builder := by
  cases h with
  | unchanged _ => exact hs c hc
  | added hc' hactive hraw hcount hlen =>
    obtain rfl := Option.some.inj (hc.symm.trans hc')
    exact builderOk_added (hconfig c hc) (hs c hc) hactive hraw hcount hlen

theorem Effect.keeps_builder {s u : State} {i : Instr} {e : Status} (h : Effect s i u e) (hconfig : s.ConfigOk)
    (hs : ∀ c, s.config = some c → builderOk c s.builder) (c : Config) (hc : u.config = some c) :
    builderOk c u.builder := by
  cases h with
  | reset _ _ | rewritten _ _ => exact fun hactive => nomatch hactive
  | begun hc' _ =>
    obtain rfl := Option.some.inj (hc'.symm.trans hc)
    exact builderOk_begun (hconfig _ hc)
  | rawSet hc' hactive hlen _ =>
    obtain rfl := Option.some.inj (hc'.symm.trans hc)
    exact builderOk_withRaw (hconfig _ hc) (hs _ hc) hactive hlen
  | addIo h | typeRow _ h => exact h.keeps_builder hconfig hs (by rw [h.frame] at hc; exact hc)
  | ft12Decode h | apciReceive h | frameRow _ _ _ h | apduRow _ _ _ h =>
    rw [h.frame] at hc ⊢
    exact hs c hc
  | _ => exact hs c hc

/-! ### View (10_state.md R39) -/

theorem octet_take {os : List Byte} {m i : Nat} (h : i < m) : octet (os.take m) i = octet os i := by
  simp [octet, List.getD_eq_getElem?_getD, List.getElem?_take_of_lt h]

theorem slice_take {os : List Byte} {m off n : Nat} (h : off + n ≤ m) : slice (os.take m) off n = slice os off n := by
  rw [slice, slice, List.drop_take, List.take_take, Nat.min_eq_left (by omega)]

/-- The walk over segments goes forward and stays in the octets. -/
theorem walkSegments_bounds {ioaLen : Nat} {os : List Byte} : ∀ {n p q : Nat},
    walkSegments ioaLen os n p = .ok q → p ≤ os.length → p ≤ q ∧ q ≤ os.length
  | 0, _, _, h, hp => by
    cases h
    exact ⟨Nat.le_refl _, hp⟩
  | n + 1, p, q, h, _ => by
    simp only [walkSegments] at h
    split at h
    · cases h
    · split at h
      · cases h
      · next hq =>
        obtain ⟨h1, h2⟩ := walkSegments_bounds h (Nat.not_lt.mp hq)
        exact ⟨by omega, h2⟩

/-- The walk does not look beyond the address where it ends. -/
theorem walkSegments_take {ioaLen m : Nat} {os : List Byte} (hm : m ≤ os.length) : ∀ {n p q : Nat},
    walkSegments ioaLen os n p = .ok q → q ≤ m → walkSegments ioaLen (os.take m) n p = .ok q
  | 0, _, _, h, _ => h
  | n + 1, p, q, h, hq => by
    simp only [walkSegments] at h ⊢
    split at h
    · cases h
    · split at h
      · cases h
      · next hnext =>
        have hbound := (walkSegments_bounds h (Nat.not_lt.mp hnext)).1
        rw [octet_take (by omega), List.length_take, Nat.min_eq_left hm, if_neg (by omega), if_neg (by omega)]
        exact walkSegments_take hm h hq

/-- The octets that an ASDU needs end in the string, after its header, and are all that the count looks at. -/
theorem needOf_take {c : Config} {h : Header} {psize : PSize} {os : List Byte} {need : Nat}
    (hn : needOf c h psize os = .ok need) (hhdr : c.hdrLen ≤ os.length) :
    c.hdrLen ≤ need ∧ need ≤ os.length ∧ needOf c h psize (os.take need) = .ok need := by
  cases psize with
  | fixed size =>
    simp only [needOf] at hn ⊢
    generalize hk : (if h.sq = true then _ else _) = k at hn ⊢
    have hlo : c.hdrLen ≤ k := by rw [← hk]; split <;> exact Nat.le_add_right _ _
    split at hn
    · next hle =>
      cases hn
      exact ⟨hlo, hle, by rw [List.length_take, Nat.min_eq_left hle, if_pos (Nat.le_refl _)]⟩
    · cases hn
  | _ =>
    simp only [needOf] at hn ⊢
    split at hn
    · cases hn
    · next hsq =>
      obtain ⟨hlo, hhi⟩ := walkSegments_bounds hn hhdr
      exact ⟨hlo, hhi, by rw [if_neg hsq]; exact walkSegments_take hhi hn (Nat.le_refl _)⟩

theorem parseHeader_take {c : Config} {os : List Byte} {m : Nat} (hc : c.valid = true) (hm : c.hdrLen ≤ m) :
    parseHeader c (os.take m) = parseHeader c os := by
  have hlen := Config.valid_lengths hc
  rw [Config.hdrLen] at hm
  have hoa : (if c.cotLen = 2 then octet (os.take m) 3 else 0#8) = if c.cotLen = 2 then octet os 3 else 0#8 := by
    split
    · rw [octet_take (by omega)]
    · rfl
  simp only [parseHeader, hoa]
  rw [octet_take (by omega), octet_take (by omega), octet_take (by omega), slice_take (by omega)]

/-- What ASDU_DECODE accepts it accepts again from the octets it needs (44_asdu_codec.md R324). -/
theorem parseAsdu_take {c : Config} {os : List Byte} {h : Header} {psize : PSize} {need : Nat} (hc : c.valid = true)
    (hparse : parseAsdu c os = .good h psize need) :
    need ≤ os.length ∧ parseAsdu c (os.take need) = .good h psize need := by
  simp only [parseAsdu] at hparse
  split at hparse
  · cases hparse
  next hhdr =>
  split at hparse
  · cases hparse
  next psize' hpsize =>
  split at hparse
  · cases hparse
  next need' hneed =>
  split at hparse
  · cases hparse
  next hstrict =>
  cases hparse
  obtain ⟨hlo, hhi, hneed'⟩ := needOf_take hneed (Nat.not_lt.mp hhdr)
  refine ⟨hhi, ?_⟩
  simp only [parseAsdu, parseHeader_take hc hlo, hpsize, hneed', List.length_take, Nat.min_eq_left hhi]
  rw [if_neg (by omega), if_neg (by simp)]

theorem Mem.take_read (m : Mem) : ∀ (n k a : Nat), n ≤ k → (Mem.read m a k).take n = Mem.read m a n
  | 0, _, _, _ => rfl
  | n + 1, k + 1, a, h => by
    rw [Mem.read, Mem.read, List.take_succ_cons, Mem.take_read m n k (a + 1) (by omega)]

theorem Effect.keeps_view {s u : State} {i : Instr} {e : Status} (h : Effect s i u e) (hconfig : s.ConfigOk)
    (hs : ∀ c, s.config = some c → viewOk c s.view s.rxbuf) (c : Config) (hc : u.config = some c) :
    viewOk c u.view u.rxbuf := by
  cases h with
  | reset _ _ | viewFailed _ => exact fun hvalid => nomatch hvalid
  | viewedUnknown hc' hfit hparse =>
    obtain rfl := Option.some.inj (hc'.symm.trans hc)
    exact fun _ => ⟨hfit, hparse⟩
  | @viewed _ off len hdr psize need hc' hfit hparse =>
    obtain rfl := Option.some.inj (hc'.symm.trans hc)
    obtain ⟨hneed, hparse'⟩ := parseAsdu_take (hconfig _ hc) hparse
    rw [Mem.length_read] at hneed
    have hlen : (BitVec.ofNat 16 need).toNat = need :=
      (BitVec.toNat_ofNat ..).trans (Nat.mod_eq_of_lt (hneed.trans_lt len.isLt))
    rw [Mem.take_read _ _ _ _ hneed] at hparse'
    refine fun _ => ⟨?_, ?_⟩
    · simp only [hlen]; omega
    · simpa only [hlen, if_true] using hparse'
  | addIo h | typeRow _ h | ft12Decode h | apciReceive h =>
    rw [h.frame] at hc ⊢
    exact hs c hc
  | frameRow _ _ _ h | apduRow _ _ _ h =>
    rw [h.frame]
    exact fun hvalid => nomatch hvalid
  | _ => exact hs c hc

/-! ### Element (10_state.md R41) -/

theorem TypeId.code_of_ofByte? {b : Byte} {t : TypeId} (h : TypeId.ofByte? b = some t) : t.code = b := by
  unfold TypeId.ofByte? at h
  split at h <;> cases h <;> exact BitVec.eq_of_toNat_eq (Eq.symm ‹_›)

/-- The body that a decoder makes is one that an element of the type can have. -/
theorem bodyFits_decOf {c : Config} {t : Byte} {psize : PSize} {os : List Byte} (hpsize : psizeOf? c t = some psize)
    (hos : ∀ n, psize = .fixed n → os.length = n.toNat) : bodyFits c t (decOf t os) = true := by
  cases ht : TypeId.ofByte? t with
  | some std =>
    have hcode := TypeId.code_of_ofByte? ht
    cases std with
    | fSgNa1 =>
      have hseg : (slice os 4 (octet os 3).toNat).length ≤ 255 :=
        (List.length_take_le _ _).trans (Nat.le_of_lt_succ (octet os 3).isLt)
      simp [decOf, ht, TypeId.decBody, bodyFits, hcode, hseg]
    | _ => simp [decOf, ht, TypeId.decBody, bodyFits, Body.typeId?]
  | none =>
    simp only [psizeOf?, ht, Option.map_eq_some_iff] at hpsize
    obtain ⟨p, hp, rfl⟩ := hpsize
    simp [decOf, ht, bodyFits, hp, hos p.size rfl]

theorem Effect.keeps_elem {s u : State} {i : Instr} {e : Status} (h : Effect s i u e)
    (hs : ∀ c, s.config = some c → elemOk c s.elem) (c : Config) (hc : u.config = some c) : elemOk c u.elem := by
  cases h with
  | reset _ _ | viewFailed _ | viewedUnknown _ _ _ | viewed _ _ _ | elementFailed _ =>
    exact fun hvalid => nomatch hvalid
  | element hc' hio _ =>
    obtain rfl := Option.some.inj (hc'.symm.trans hc)
    obtain ⟨psize, os, hpsize, hos, hbody⟩ := hio.body
    refine fun _ => ⟨?_, hio.ioa_lt⟩
    simp only [hio.type_eq, hbody]
    exact bodyFits_decOf hpsize hos
  | addIo h | typeRow _ h | ft12Decode h | apciReceive h =>
    rw [h.frame] at hc ⊢
    exact hs c hc
  | frameRow _ _ _ h | apduRow _ _ _ h =>
    rw [h.frame]
    exact fun hvalid => nomatch hvalid
  | _ => exact hs c hc

/-! ### FT1.2 registers (10_state.md R42, R43) -/

/-- A control octet is its fields (45_ft12_link.md R361). -/
theorem control_fields : ∀ ctl : Byte, ctl = ctl.extractLsb' 7 1 ++ ctl.extractLsb' 6 1 ++ ctl.extractLsb' 5 1 ++
    ctl.extractLsb' 4 1 ++ ctl.extractLsb' 0 4 := by
  decide

theorem linkOk_linkOf {c : Config} (kind : FrameKind) (ctl : Byte) (a : Nat) {udOff udLen : Nat}
    (hud : udOff + udLen ≤ Buf.rxbuf.size) : linkOk c (linkOf c.linkMode kind ctl a udOff udLen) := by
  refine fun _ => ⟨control_fields ctl, rfl, ?_⟩
  simp only [linkOf, BitVec.toNat_ofNat]
  exact (Nat.add_le_add (Nat.mod_le _ _) (Nat.mod_le _ _)).trans hud

theorem FrameEffect.keeps_link {s u : State} {e : Status} (h : FrameEffect s u e)
    (hs : ∀ c, s.config = some c → linkOk c s.link) {c : Config} (hc : s.config = some c) : linkOk c u.link := by
  cases h with
  | unchanged => exact hs c hc
  | invalid _ => exact fun hvalid => nomatch hvalid
  | decoded kind ctl a _ _ hc' hud =>
    obtain rfl := Option.some.inj (hc'.symm.trans hc)
    exact linkOk_linkOf kind ctl a hud

theorem Effect.keeps_link {s u : State} {i : Instr} {e : Status} (h : Effect s i u e)
    (hs : ∀ c, s.config = some c → linkOk c s.link) (c : Config) (hc : u.config = some c) : linkOk c u.link := by
  cases h with
  | reset _ _ => exact fun hvalid => nomatch hvalid
  | ft12Decode h | frameRow _ _ _ h => exact h.keeps_link hs (by rw [h.frame] at hc; exact hc)
  | addIo h | typeRow _ h | apciReceive h | apduRow _ _ _ h =>
    rw [h.frame] at hc ⊢
    exact hs c hc
  | _ => exact hs c hc

/-! ### Roles (46_apci.md R420 to R423, R428, R430) -/

theorem rolesOk_completeStop {c : Config} {a : Apci} (h : rolesOk c a) : rolesOk c (a.completeStop c.apciRole) := by
  unfold Apci.completeStop
  split
  · next hstop => exact ⟨h.1, fun _ => hstop.2.2⟩
  · exact h

theorem rolesOk_uEffect? {c : Config} {a a' : Apci} {fn : Ufn} (h : rolesOk c a)
    (ha : uEffect? c.apciRole a fn = some a') : rolesOk c a' := by
  obtain ⟨hpending, hresp⟩ := h
  cases fn with
  | startdtAct | stopdtAct =>
    simp only [uEffect?] at ha
    repeat' split at ha
    all_goals cases ha
    all_goals exact ⟨hpending, fun _ => by tauto⟩
  | startdtCon | stopdtCon =>
    simp only [uEffect?] at ha
    split at ha <;> cases ha
    next hrole => exact ⟨fun _ => hrole.1, hresp⟩
  | testfrAct => cases ha; exact ⟨hpending, hresp⟩
  | testfrCon =>
    simp only [uEffect?] at ha
    split at ha <;> cases ha
    exact ⟨hpending, hresp⟩

theorem rolesOk_uSend? {c : Config} {a a' : Apci} {fn : Ufn} (h : rolesOk c a)
    (ha : uSend? c.apciRole a fn = some a') : rolesOk c a' := by
  obtain ⟨hpending, hresp⟩ := h
  cases fn with
  | startdtAct | stopdtAct =>
    simp only [uSend?] at ha
    split at ha <;> cases ha
    next hrole => exact ⟨fun _ => hrole.1, hresp⟩
  | startdtCon | stopdtCon =>
    simp only [uSend?] at ha
    split at ha <;> cases ha
    next hrole => exact ⟨hpending, fun _ => hrole.1⟩
  | testfrAct => cases ha; exact ⟨hpending, hresp⟩
  | testfrCon =>
    simp only [uSend?] at ha
    split at ha <;> cases ha
    exact ⟨hpending, hresp⟩

theorem ApduEffect.keeps_roles {s u : State} {e : Status} (h : ApduEffect s u e)
    (hs : ∀ c, s.config = some c → rolesOk c s.apci) {c : Config} (hc : s.config = some c) : rolesOk c u.apci := by
  have hroles := hs c hc
  cases h with
  | unchanged _ | faulted _ _ | unexpectedU _ => exact hroles
  | acceptedI hc' _ _ | acceptedS hc' _ =>
    obtain rfl := Option.some.inj (hc'.symm.trans hc)
    exact rolesOk_completeStop hroles
  | acceptedU hc' ha =>
    obtain rfl := Option.some.inj (hc'.symm.trans hc)
    exact rolesOk_uEffect? (a := s.apci.heard ..) hroles ha

theorem Effect.keeps_roles {s u : State} {i : Instr} {e : Status} (h : Effect s i u e)
    (hs : ∀ c, s.config = some c → rolesOk c s.apci) (c : Config) (hc : u.config = some c) : rolesOk c u.apci := by
  cases h with
  | reset _ _ | reconnected _ => constructor <;> rintro (hflag | hflag) <;> cases hflag
  | sentU _ hc' ha _ =>
    obtain rfl := Option.some.inj (hc'.symm.trans hc)
    exact rolesOk_uSend? (hs _ hc) ha
  | apciReceive h | apduRow _ _ _ h => exact h.keeps_roles hs (by rw [h.frame] at hc; exact hc)
  | addIo h | typeRow _ h | ft12Decode h | frameRow _ _ _ h =>
    rw [h.frame] at hc ⊢
    exact hs c hc
  | _ => exact hs c hc

/-! ### The invariant -/

theorem Effect.keeps_inv {s u : State} {i : Instr} {e : Status} (h : Effect s i u e) (hs : s.Inv) : u.Inv :=
  have hwindow := h.keeps_window ⟨hs.config, hs.window⟩
  { mem := h.keeps_memOk hs.config hs.mem
    status := h.keeps_statusOk hs.status
    config := hwindow.1
    txLen := h.keeps_txLen hs.txLen
    unconfigured := h.keeps_unconfigured hs.unconfigured
    window := hwindow.2
    builder := h.keeps_builder hs.config hs.builder
    view := h.keeps_view hs.config hs.view
    elem := h.keeps_elem hs.elem
    link := h.keeps_link hs.link
    roles := h.keeps_roles hs.roles }

/-- A host write ends what it overwrites: the view and the element, or the builder (20_memory.md R74, R75). -/
theorem written_inv {s : State} {b : Buf} {a : Nat} {os : List Byte} (hs : s.Inv) (hfit : a + os.length ≤ b.size) :
    (s.written b a os).Inv := by
  have hmem := written_memOk hs.mem hfit
  cases b with
  | rxbuf =>
    exact { hs with
      mem := hmem
      unconfigured := fun hn => written_unconfigured (hs.unconfigured hn)
      view := fun _ _ hvalid => nomatch hvalid
      elem := fun _ _ hvalid => nomatch hvalid }
  | txbuf => exact { hs with mem := hmem }
  | abuf =>
    exact { hs with
      mem := hmem
      unconfigured := fun hn => written_unconfigured (hs.unconfigured hn)
      builder := fun _ _ hactive => nomatch hactive }

theorem stepClosed_inv : StepClosed State.Inv where
  input _ hs := { hs with }
  status e _ hs := { hs with status := ⟨e, rfl⟩ }
  asduLen _ hs := { hs with }
  written _ _ _ hs hfit := written_inv hs hfit
  effect hs h := h.keeps_inv hs

/-- Settles O57: every effect and every write of the host keeps the invariant, unit by unit. -/
theorem stepKeepsInv : Obligations.StepKeepsInv := fun _ _ hs h => stepClosed_inv.step hs h

end Sys2Proof.Machine
end

section
/-! ## The buffers: who writes them, and inside which bounds

`exec_buffers` says what an instruction does to each buffer: nothing, or, if it is one of the buffer's writers, writes that
lie inside the buffer. -/

namespace Sys2Proof.Machine

/-! ### Host writes (20_memory.md R74 to R76) -/

@[simp] theorem State.buf_input (s : State) (later : List HostAction) (b : Buf) :
    { s with input := later }.buf b = s.buf b := by
  cases b <;> rfl

/-- Settles O6: each action of the host is one equation for `step`, and a write puts its octets where `Wrote` says. -/
theorem hostWrites : Obligations.HostWrites := by
  refine ⟨fun s b addr os later hinput hs hne hfit => ?_, fun s b addr later hinput => ?_,
    fun s v later hinput => ?_, fun s r v later hinput => ?_⟩
  · refine ⟨{ s with input := later }.written b addr.toNat os, ?_, ?_, ?_⟩
    · rw [step_cons hinput]
      exact State.hostWrite_inside hne hfit
    · exact wrote_of_buf hs (by simp [State.written]) fun b' hb' => by simp [State.written, hb']
    · cases b <;> rfl
  all_goals exact step_cons hinput

/-! ### The writers of a buffer (20_memory.md R72) -/

/-- The W entries of the table in 20_memory.md R72, and the rows that are no commands (log entry 2): a type row writes
ABUF as ASDU_ADD_IO does, and a row that is a received frame has its frame written to RXBUF. -/
inductive Writer : Buf → Instr → Prop
  | frameRow {i : Instr} (hcommand : i.space ≠ .command) (htype : i.space ≠ .asduType) : Writer .rxbuf i
  | ft12EncFixed (c : Byte) (a : BitVec 16) : Writer .txbuf (.ft12EncFixed c a)
  | ft12EncVar (c : Byte) (a : BitVec 16) : Writer .txbuf (.ft12EncVar c a)
  | ft12EncSingle : Writer .txbuf .ft12EncSingle
  | apciSendI (tag : Tag) : Writer .txbuf (.apciSendI tag)
  | apciSendS : Writer .txbuf .apciSendS
  | apciSendU (fn : Ufn) : Writer .txbuf (.apciSendU fn)
  | asduBegin (sq t pn : Bool) (cot oa : Byte) (ca : BitVec 16) : Writer .abuf (.asduBegin sq t pn cot oa ca)
  | asduAddIo (io : IOOperand) : Writer .abuf (.asduAddIo io)
  | asduSetRaw (type count : Byte) (data : List Byte) : Writer .abuf (.asduSetRaw type count data)
  | asduRewriteCot (cot : Byte) (pn : Bool) : Writer .abuf (.asduRewriteCot cot pn)
  | typeRow {i : Instr} (htype : i.space = .asduType) : Writer .abuf i

theorem Writer.rxbuf_space {i : Instr} (h : Writer .rxbuf i) : i.space ≠ .command ∧ i.space ≠ .asduType := by
  cases h with
  | frameRow hcommand htype => exact ⟨hcommand, htype⟩

theorem Writer.txbuf_space {i : Instr} (h : Writer .txbuf i) : i.space = .command := by
  cases h <;> rfl

theorem Writer.abuf_space {i : Instr} (h : Writer .abuf i) : i.space = .command ∨ i.space = .asduType := by
  cases h with
  | typeRow htype => exact .inr htype
  | _ => exact .inl rfl

/-- An instruction that adds an object is ASDU_ADD_IO or a row of the type identifiers (log entry 2). -/
def AddsObject (i : Instr) : Prop := (∃ io, i = .asduAddIo io) ∨ i.space = .asduType

theorem AddsObject.writer {i : Instr} : AddsObject i → Writer .abuf i
  | .inl ⟨io, h⟩ => h ▸ .asduAddIo io
  | .inr h => .typeRow h

theorem AddsObject.exec_eq {i : Instr} (h : AddsObject i) :
    ∃ type ioa body, ∀ s, exec i s = addObject type ioa body s := by
  rcases h with ⟨io, rfl⟩ | htype
  · exact ⟨_, _, _, fun _ => rfl⟩
  · obtain ⟨_, _, _, hrow⟩ := exec_asduType htype
    exact ⟨_, _, _, hrow⟩

/-! ### What an instruction does to the buffers -/

/-- From `s` to `u` each buffer is as it was, or `i` is one of its writers and kept its form and its bounds. -/
def BuffersAfter (s : State) (i : Instr) (u : State) : Prop :=
  ∀ b, u.buf b = s.buf b ∨ Writer b i ∧ (Mem.Ok b.size (s.buf b) → Mem.Ok b.size (u.buf b))

section
variable {s u : State} {i : Instr}

theorem BuffersAfter.kept (hrx : u.rxbuf = s.rxbuf) (htx : u.txbuf = s.txbuf) (hab : u.abuf = s.abuf) :
    BuffersAfter s i u
  | .rxbuf => .inl hrx
  | .txbuf => .inl htx
  | .abuf => .inl hab

theorem BuffersAfter.rxbuf (hw : Writer .rxbuf i) (hok : Mem.Ok Buf.rxbuf.size s.rxbuf → Mem.Ok Buf.rxbuf.size u.rxbuf)
    (htx : u.txbuf = s.txbuf) (hab : u.abuf = s.abuf) : BuffersAfter s i u
  | .rxbuf => .inr ⟨hw, hok⟩
  | .txbuf => .inl htx
  | .abuf => .inl hab

theorem BuffersAfter.txbuf (hw : Writer .txbuf i) (hok : Mem.Ok Buf.txbuf.size s.txbuf → Mem.Ok Buf.txbuf.size u.txbuf)
    (hrx : u.rxbuf = s.rxbuf) (hab : u.abuf = s.abuf) : BuffersAfter s i u
  | .rxbuf => .inl hrx
  | .txbuf => .inr ⟨hw, hok⟩
  | .abuf => .inl hab

theorem BuffersAfter.abuf (hw : Writer .abuf i) (hok : Mem.Ok Buf.abuf.size s.abuf → Mem.Ok Buf.abuf.size u.abuf)
    (hrx : u.rxbuf = s.rxbuf) (htx : u.txbuf = s.txbuf) : BuffersAfter s i u
  | .rxbuf => .inl hrx
  | .txbuf => .inl htx
  | .abuf => .inr ⟨hw, hok⟩

theorem BuffersAfter.withStatus {e : Status} {info : BitVec 16} (h : BuffersAfter s i u) :
    BuffersAfter s i (u.withStatus e info) := by
  intro b
  simpa using h b

theorem BuffersAfter.eq_of_not_writer {b : Buf} (h : BuffersAfter s i u) (hw : ¬ Writer b i) : u.buf b = s.buf b :=
  (h b).resolve_right fun hwrote => hw hwrote.1

theorem BuffersAfter.keeps_memOk (h : BuffersAfter s i u) (hs : s.MemOk) : u.MemOk := by
  intro b
  rcases h b with heq | ⟨_, hok⟩
  · rw [heq]
    exact hs b
  · exact hok (hs b)

end

/-- The stores of an object lie in ABUF in every state, also where no RESET bounded MAX_ASDU_LEN: each store checks. -/
theorem storeElement_buffers {i : Instr} (hw : Writer .abuf i) (type : Byte) (ioa : Nat) (part : List Byte) (s : State) :
    Answers (storeElement type ioa part s) fun u _ => BuffersAfter s i u := by
  unfold storeElement
  refine .store fun hpart => .store fun htype => .store fun hvsq => .finish ?_
  exact .abuf hw (fun hok => ((hok.write hpart).write htype).write hvsq) rfl rfl

theorem addObject_buffers {i : Instr} (hw : Writer .abuf i) (type : Byte) (ioa : Nat) (body : Option Body) (s : State) :
    Answers (addObject type ioa body s) fun u _ => BuffersAfter s i u := by
  have hkept : BuffersAfter s i s := .kept rfl rfl rfl
  refine .configured hkept fun _ _ => .check rfl hkept fun _ => .check rfl hkept fun _ => .check rfl hkept fun _ =>
    .check rfl hkept fun _ => .check rfl hkept fun _ => ?_
  cases body with
  | none => exact .raise rfl hkept
  | some body =>
    exact .check rfl hkept fun _ => .check rfl hkept fun _ => .check rfl hkept fun _ => .check rfl hkept fun _ =>
      .check rfl hkept fun _ => storeElement_buffers hw type ioa _ s

theorem transmitted_buffers {s u : State} {i : Instr} {frame : List Byte} (hw : Writer .txbuf i)
    (hfit : frame.length ≤ Buf.txbuf.size) (htx : u.txbuf = (s.transmitted frame).txbuf) (hrx : u.rxbuf = s.rxbuf)
    (hab : u.abuf = s.abuf) : BuffersAfter s i u :=
  .txbuf hw (fun hok => htx ▸ hok.write (by omega)) hrx hab

theorem delivered_buffers {s u : State} {i : Instr} {frame : List Byte} (hw : Writer .rxbuf i)
    (hfit : frame.length ≤ Buf.rxbuf.size) (hrx : u.rxbuf = (s.written .rxbuf 0 frame).rxbuf) (htx : u.txbuf = s.txbuf)
    (hab : u.abuf = s.abuf) : BuffersAfter s i u :=
  .rxbuf hw (fun hok => hrx ▸ hok.write (by omega)) htx hab

theorem Effect.buffers {s u : State} {i : Instr} {e : Status} (h : Effect s i u e) (hadds : ¬ AddsObject i) :
    BuffersAfter s i u := by
  cases h with
  | begun _ hfit => exact .abuf (.asduBegin ..) (fun hok => hok.write (by omega)) rfl rfl
  | rawSet _ _ _ hfit =>
    exact .abuf (.asduSetRaw ..) (fun hok => (hok.write (by simp [Buf.size])).write hfit) rfl rfl
  | rewritten _ hfit =>
    exact .abuf (.asduRewriteCot ..) (fun hok => (hok.write (by simpa using hfit)).write (by simp [Buf.size])) rfl rfl
  | sentFixed _ _ hfit => exact transmitted_buffers (.ft12EncFixed ..) hfit rfl rfl rfl
  | sentVar _ _ hfit => exact transmitted_buffers (.ft12EncVar ..) hfit rfl rfl rfl
  | sentSingle _ _ hfit => exact transmitted_buffers .ft12EncSingle hfit rfl rfl rfl
  | sentI _ _ _ hfit => exact transmitted_buffers (.apciSendI _) hfit rfl rfl rfl
  | sentS _ _ hfit => exact transmitted_buffers .apciSendS hfit rfl rfl rfl
  | sentU _ _ _ hfit => exact transmitted_buffers (.apciSendU _) hfit rfl rfl rfl
  | addIo _ => exact absurd (.inl ⟨_, rfl⟩) hadds
  | typeRow hi _ => exact absurd (.inr hi) hadds
  | ft12Decode h | apciReceive h =>
    rw [h.frame]
    exact .kept rfl rfl rfl
  | frameRow hi _ hfit h =>
    rw [h.frame]
    have hw : Writer .rxbuf i := by rcases hi with hi | hi | hi <;> exact .frameRow (by simp [hi]) (by simp [hi])
    exact delivered_buffers hw hfit rfl rfl rfl
  | apduRow hi _ hfit h =>
    rw [h.frame]
    exact delivered_buffers (.frameRow (by simp [hi]) (by simp [hi])) hfit rfl rfl rfl
  | _ => exact .kept rfl rfl rfl

/-- What an instruction does to the buffers. -/
theorem exec_buffers {i : Instr} {s t : State} (h : exec i s = .next t) : BuffersAfter s i t := by
  have hanswers : Answers (exec i s) fun u _ => BuffersAfter s i u := by
    by_cases hadds : AddsObject i
    · obtain ⟨type, ioa, body, hexec⟩ := hadds.exec_eq
      rw [hexec]
      exact addObject_buffers hadds.writer type ioa body s
    · exact (exec_answers i s).mono fun _ _ heff => heff.buffers hadds
  obtain ⟨u, e, info, hu, rfl⟩ := hanswers t h
  exact hu.withStatus

/-- Settles O47: a buffer changes only under one of its writers, and a space tells which buffers its instructions write. -/
theorem bufferAccess : Obligations.BufferAccess := by
  intro i s t h
  have hbuf := exec_buffers h
  refine ⟨fun hcommand => ⟨?_, ?_, ?_⟩, fun htype => ⟨?_, ?_⟩, fun hcommand htype => ⟨?_, ?_⟩⟩
  · exact hbuf.eq_of_not_writer (b := .rxbuf) fun hw => hw.rxbuf_space.1 hcommand
  · by_cases hw : Writer .txbuf i
    · cases hw <;> simp
    · exact .inl (hbuf.eq_of_not_writer hw)
  · by_cases hw : Writer .abuf i
    · cases hw with
      | typeRow htype => cases hcommand.symm.trans htype
      | _ => simp
    · exact .inl (hbuf.eq_of_not_writer hw)
  · exact hbuf.eq_of_not_writer (b := .rxbuf) fun hw => hw.rxbuf_space.2 htype
  · exact hbuf.eq_of_not_writer (b := .txbuf) fun hw => nomatch htype.symm.trans hw.txbuf_space
  · exact hbuf.eq_of_not_writer (b := .txbuf) fun hw => hcommand hw.txbuf_space
  · exact hbuf.eq_of_not_writer (b := .abuf) fun hw => hw.abuf_space.elim hcommand htype

/-- Settles O55: instructions and host writes write inside the buffers, and the other actions write none of them. -/
theorem stepKeepsBuffers : Obligations.StepKeepsBuffers := by
  intro s t hs h
  rcases step_next h with ⟨_, rfl⟩ | ⟨action, rest, _, h⟩
  · exact hs
  have hs' : { s with input := rest }.MemOk := State.memOk_iff.mpr (State.memOk_iff.mp hs)
  rcases takeAction_next h with ⟨_, _, _, _, _, _, hexec⟩ | ⟨_, _, _, _, rfl⟩ | ⟨_, _, _, _, _, rfl⟩ |
    ⟨_, _, _, _, _, hfit, rfl⟩ | ⟨_, _, rfl⟩ | ⟨_, _, _, rfl⟩
  · exact (exec_buffers hexec).keeps_memOk hs'
  · exact State.memOk_iff.mpr (State.memOk_iff.mp hs')
  · exact hs'
  · exact written_memOk hs' hfit
  · exact State.memOk_iff.mpr (State.memOk_iff.mp hs')
  · exact hs'

end Sys2Proof.Machine
end

section
/-! ## Octet strings and information elements

`leOctets` and `fromLE` are inverse, and so are the octets and the record of each element (41_primitive_codecs.md R150).
`ElementLaws` says it in the form that a payload of several elements in a row needs: with octets after the element. -/

namespace Sys2Proof

/-! ### Little-endian numbers (00_scope.md R22) -/

@[simp] theorem leOctets_length : ∀ n v : Nat, (leOctets n v).length = n
  | 0, _ => rfl
  | n + 1, v => congrArg (· + 1) (leOctets_length n (v / 256))

theorem fromLE_leOctets : ∀ n v : Nat, fromLE (leOctets n v) = v % 256 ^ n
  | 0, v => by simp [leOctets, fromLE, Nat.mod_one]
  | n + 1, v => by
    rw [leOctets, fromLE, fromLE_leOctets n (v / 256), Nat.pow_succ, Nat.mul_comm (256 ^ n), Nat.mod_mul,
      BitVec.toNat_ofNat]

theorem fromLE_leOctets_of_lt {n v : Nat} (h : v < 256 ^ n) : fromLE (leOctets n v) = v := by
  rw [fromLE_leOctets, Nat.mod_eq_of_lt h]

@[simp] theorem leOctets_fromLE : ∀ os : List Byte, leOctets os.length (fromLE os) = os
  | [] => rfl
  | b :: bs => by
    have hdiv : (b.toNat + 256 * fromLE bs) / 256 = fromLE bs := by have := b.isLt; omega
    have hmod : BitVec.ofNat 8 (b.toNat + 256 * fromLE bs) = b :=
      BitVec.eq_of_toNat_eq (by have := b.isLt; simp; omega)
    rw [fromLE, List.length_cons, leOctets, hdiv, hmod, leOctets_fromLE bs]

theorem leOctets_fromLE_of_length {n : Nat} {os : List Byte} (h : os.length = n) : leOctets n (fromLE os) = os :=
  h ▸ leOctets_fromLE os

theorem fromLE_lt_of_length {n : Nat} {os : List Byte} (h : os.length = n) : fromLE os < 256 ^ n := by
  have := Machine.fromLE_lt os
  rwa [h, Nat.pow_mul] at this

@[simp] theorem leOctets_one (b : Byte) : leOctets 1 b.toNat = [b] := by simp [leOctets]

theorem word_lt (n : Nat) (w : BitVec (8 * n)) : w.toNat < 256 ^ n := by
  have := w.isLt
  rwa [Nat.pow_mul] at this

/-! ### Slices of a number

The widths of these lemmas are sums, and an element's width is a numeral: `simp` shall not look the lemmas up by it. -/

@[simp] theorem extractLsb'_append_low {m n : Nat} (hi : BitVec m) (lo : BitVec n) :
    @BitVec.extractLsb' (no_index (m + n)) 0 n
      (@HAppend.hAppend (BitVec m) (BitVec n) (no_index (BitVec (m + n))) _ hi lo) = lo := by
  ext i h
  simp [BitVec.getLsbD_append, h]

@[simp] theorem extractLsb'_append_high {m n s w : Nat} (hi : BitVec m) (lo : BitVec n) (h : n ≤ s) :
    @BitVec.extractLsb' (no_index (m + n)) s w
      (@HAppend.hAppend (BitVec m) (BitVec n) (no_index (BitVec (m + n))) _ hi lo) = hi.extractLsb' (s - n) w := by
  ext i hi
  simp [BitVec.getLsbD_append, show ¬ s + i < n by omega, Nat.sub_add_comm h]

/-- Slices that touch join to one. -/
@[simp] theorem extractLsb'_append_extractLsb' {v m n s t : Nat} (b : BitVec v) (h : t = s + n) :
    @HAppend.hAppend (BitVec m) (BitVec n) (no_index (BitVec (m + n))) _ (b.extractLsb' t m) (b.extractLsb' s n) =
      b.extractLsb' s (m + n) := by
  ext i hi
  rw [BitVec.getElem_append]
  split
  · simp
  · next hn => simp [h, Nat.add_assoc, Nat.add_sub_cancel' (Nat.le_of_not_lt hn)]

/-! ### Information elements (41_primitive_codecs.md R150 to R190) -/

/-- An element of `n` octets: its encoder and decoder are inverse, whatever stands behind the `n` octets. -/
abbrev ElementLaws {α : Type} (n : Nat) (enc : α → List Byte) (dec : List Byte → α) : Prop :=
  (∀ e, (enc e).length = n) ∧ (∀ e, dec (enc e) = e) ∧ (∀ e rest, dec (enc e ++ rest) = e) ∧
  (∀ os, n ≤ os.length → enc (dec os) = os.take n)

/-- An element whose record and number stand for each other has the laws. -/
theorem elementLaws_of_word {α : Type} {n : Nat} (word : α → BitVec (8 * n)) (ofWord : BitVec (8 * n) → α)
    (ofWord_word : ∀ e, ofWord (word e) = e) (word_ofWord : ∀ b, word (ofWord b) = b) :
    ElementLaws n (fun e => leOctets n (word e).toNat)
      (fun os => ofWord (BitVec.ofNat (8 * n) (fromLE (os.take n)))) := by
  have hdec (e : α) (rest : List Byte) :
      ofWord (BitVec.ofNat (8 * n) (fromLE ((leOctets n (word e).toNat ++ rest).take n))) = e := by
    rw [List.take_left' (leOctets_length n _), fromLE_leOctets_of_lt (word_lt n _), BitVec.ofNat_toNat,
      BitVec.setWidth_eq, ofWord_word]
  refine ⟨fun e => leOctets_length n _, fun e => by simpa using hdec e [], hdec, fun os h => ?_⟩
  have hlen : (os.take n).length = n := by simp [h]
  have hlt : fromLE (os.take n) < 2 ^ (8 * n) := Nat.pow_mul 2 8 n ▸ fromLE_lt_of_length hlen
  simp only [word_ofWord, BitVec.toNat_ofNat, Nat.mod_eq_of_lt hlt]
  exact leOctets_fromLE_of_length hlen

@[simp] theorem SIQ.laws : ElementLaws 1 SIQ.enc SIQ.dec :=
  elementLaws_of_word (n := 1) SIQ.word SIQ.ofWord
    (fun _ => by simp [SIQ.ofWord, SIQ.word]) (fun _ => by simp [SIQ.ofWord, SIQ.word])
@[simp] theorem DIQ.laws : ElementLaws 1 DIQ.enc DIQ.dec :=
  elementLaws_of_word (n := 1) DIQ.word DIQ.ofWord
    (fun _ => by simp [DIQ.ofWord, DIQ.word]) (fun _ => by simp [DIQ.ofWord, DIQ.word])
@[simp] theorem QDS.laws : ElementLaws 1 QDS.enc QDS.dec :=
  elementLaws_of_word (n := 1) QDS.word QDS.ofWord
    (fun _ => by simp [QDS.ofWord, QDS.word]) (fun _ => by simp [QDS.ofWord, QDS.word])
@[simp] theorem VTI.laws : ElementLaws 1 VTI.enc VTI.dec :=
  elementLaws_of_word (n := 1) VTI.word VTI.ofWord
    (fun _ => by simp [VTI.ofWord, VTI.word]) (fun _ => by simp [VTI.ofWord, VTI.word])
@[simp] theorem NVA.laws : ElementLaws 2 NVA.enc NVA.dec :=
  elementLaws_of_word (n := 2) NVA.word NVA.ofWord
    (fun _ => by simp [NVA.ofWord, NVA.word]) (fun _ => by simp [NVA.ofWord, NVA.word])
@[simp] theorem SVA.laws : ElementLaws 2 SVA.enc SVA.dec :=
  elementLaws_of_word (n := 2) SVA.word SVA.ofWord
    (fun _ => by simp [SVA.ofWord, SVA.word]) (fun _ => by simp [SVA.ofWord, SVA.word])
@[simp] theorem R32.laws : ElementLaws 4 R32.enc R32.dec :=
  elementLaws_of_word (n := 4) R32.word R32.ofWord
    (fun _ => by simp [R32.ofWord, R32.word]) (fun _ => by simp [R32.ofWord, R32.word])
@[simp] theorem BSI.laws : ElementLaws 4 BSI.enc BSI.dec :=
  elementLaws_of_word (n := 4) BSI.word BSI.ofWord
    (fun _ => by simp [BSI.ofWord, BSI.word]) (fun _ => by simp [BSI.ofWord, BSI.word])
@[simp] theorem BCR.laws : ElementLaws 5 BCR.enc BCR.dec :=
  elementLaws_of_word (n := 5) BCR.word BCR.ofWord
    (fun _ => by simp [BCR.ofWord, BCR.word]) (fun _ => by simp [BCR.ofWord, BCR.word])
@[simp] theorem SEP.laws : ElementLaws 1 SEP.enc SEP.dec :=
  elementLaws_of_word (n := 1) SEP.word SEP.ofWord
    (fun _ => by simp [SEP.ofWord, SEP.word]) (fun _ => by simp [SEP.ofWord, SEP.word])
@[simp] theorem SPE.laws : ElementLaws 1 SPE.enc SPE.dec :=
  elementLaws_of_word (n := 1) SPE.word SPE.ofWord
    (fun _ => by simp [SPE.ofWord, SPE.word]) (fun _ => by simp [SPE.ofWord, SPE.word])
@[simp] theorem OCI.laws : ElementLaws 1 OCI.enc OCI.dec :=
  elementLaws_of_word (n := 1) OCI.word OCI.ofWord
    (fun _ => by simp [OCI.ofWord, OCI.word]) (fun _ => by simp [OCI.ofWord, OCI.word])
@[simp] theorem QDP.laws : ElementLaws 1 QDP.enc QDP.dec :=
  elementLaws_of_word (n := 1) QDP.word QDP.ofWord
    (fun _ => by simp [QDP.ofWord, QDP.word]) (fun _ => by simp [QDP.ofWord, QDP.word])
@[simp] theorem SCD.laws : ElementLaws 4 SCD.enc SCD.dec :=
  elementLaws_of_word (n := 4) SCD.word SCD.ofWord
    (fun _ => by simp [SCD.ofWord, SCD.word]) (fun _ => by simp [SCD.ofWord, SCD.word])
@[simp] theorem CP16Time2a.laws : ElementLaws 2 CP16Time2a.enc CP16Time2a.dec :=
  elementLaws_of_word (n := 2) CP16Time2a.word CP16Time2a.ofWord
    (fun _ => by simp [CP16Time2a.ofWord, CP16Time2a.word]) (fun _ => by simp [CP16Time2a.ofWord, CP16Time2a.word])
@[simp] theorem CP24Time2a.laws : ElementLaws 3 CP24Time2a.enc CP24Time2a.dec :=
  elementLaws_of_word (n := 3) CP24Time2a.word CP24Time2a.ofWord
    (fun _ => by simp [CP24Time2a.ofWord, CP24Time2a.word]) (fun _ => by simp [CP24Time2a.ofWord, CP24Time2a.word])
@[simp] theorem CP56Time2a.laws : ElementLaws 7 CP56Time2a.enc CP56Time2a.dec :=
  elementLaws_of_word (n := 7) CP56Time2a.word CP56Time2a.ofWord
    (fun _ => by simp [CP56Time2a.ofWord, CP56Time2a.word]) (fun _ => by simp [CP56Time2a.ofWord, CP56Time2a.word])
@[simp] theorem SCO.laws : ElementLaws 1 SCO.enc SCO.dec :=
  elementLaws_of_word (n := 1) SCO.word SCO.ofWord
    (fun _ => by simp [SCO.ofWord, SCO.word]) (fun _ => by simp [SCO.ofWord, SCO.word])
@[simp] theorem DCO.laws : ElementLaws 1 DCO.enc DCO.dec :=
  elementLaws_of_word (n := 1) DCO.word DCO.ofWord
    (fun _ => by simp [DCO.ofWord, DCO.word]) (fun _ => by simp [DCO.ofWord, DCO.word])
@[simp] theorem RCO.laws : ElementLaws 1 RCO.enc RCO.dec :=
  elementLaws_of_word (n := 1) RCO.word RCO.ofWord
    (fun _ => by simp [RCO.ofWord, RCO.word]) (fun _ => by simp [RCO.ofWord, RCO.word])
@[simp] theorem QOS.laws : ElementLaws 1 QOS.enc QOS.dec :=
  elementLaws_of_word (n := 1) QOS.word QOS.ofWord
    (fun _ => by simp [QOS.ofWord, QOS.word]) (fun _ => by simp [QOS.ofWord, QOS.word])
@[simp] theorem QOI.laws : ElementLaws 1 QOI.enc QOI.dec :=
  elementLaws_of_word (n := 1) QOI.word QOI.ofWord
    (fun _ => by simp [QOI.ofWord, QOI.word]) (fun _ => by simp [QOI.ofWord, QOI.word])
@[simp] theorem QCC.laws : ElementLaws 1 QCC.enc QCC.dec :=
  elementLaws_of_word (n := 1) QCC.word QCC.ofWord
    (fun _ => by simp [QCC.ofWord, QCC.word]) (fun _ => by simp [QCC.ofWord, QCC.word])
@[simp] theorem QRP.laws : ElementLaws 1 QRP.enc QRP.dec :=
  elementLaws_of_word (n := 1) QRP.word QRP.ofWord
    (fun _ => by simp [QRP.ofWord, QRP.word]) (fun _ => by simp [QRP.ofWord, QRP.word])
@[simp] theorem COI.laws : ElementLaws 1 COI.enc COI.dec :=
  elementLaws_of_word (n := 1) COI.word COI.ofWord
    (fun _ => by simp [COI.ofWord, COI.word]) (fun _ => by simp [COI.ofWord, COI.word])
@[simp] theorem QPM.laws : ElementLaws 1 QPM.enc QPM.dec :=
  elementLaws_of_word (n := 1) QPM.word QPM.ofWord
    (fun _ => by simp [QPM.ofWord, QPM.word]) (fun _ => by simp [QPM.ofWord, QPM.word])
@[simp] theorem QPA.laws : ElementLaws 1 QPA.enc QPA.dec :=
  elementLaws_of_word (n := 1) QPA.word QPA.ofWord
    (fun _ => by simp [QPA.ofWord, QPA.word]) (fun _ => by simp [QPA.ofWord, QPA.word])
@[simp] theorem FBP.laws : ElementLaws 2 FBP.enc FBP.dec :=
  elementLaws_of_word (n := 2) FBP.word FBP.ofWord
    (fun _ => by simp [FBP.ofWord, FBP.word]) (fun _ => by simp [FBP.ofWord, FBP.word])
@[simp] theorem TSC.laws : ElementLaws 2 TSC.enc TSC.dec :=
  elementLaws_of_word (n := 2) TSC.word TSC.ofWord
    (fun _ => by simp [TSC.ofWord, TSC.word]) (fun _ => by simp [TSC.ofWord, TSC.word])
@[simp] theorem NOF.laws : ElementLaws 2 NOF.enc NOF.dec :=
  elementLaws_of_word (n := 2) NOF.word NOF.ofWord
    (fun _ => by simp [NOF.ofWord, NOF.word]) (fun _ => by simp [NOF.ofWord, NOF.word])
@[simp] theorem NOS.laws : ElementLaws 1 NOS.enc NOS.dec :=
  elementLaws_of_word (n := 1) NOS.word NOS.ofWord
    (fun _ => by simp [NOS.ofWord, NOS.word]) (fun _ => by simp [NOS.ofWord, NOS.word])
@[simp] theorem LOF.laws : ElementLaws 3 LOF.enc LOF.dec :=
  elementLaws_of_word (n := 3) LOF.word LOF.ofWord
    (fun _ => by simp [LOF.ofWord, LOF.word]) (fun _ => by simp [LOF.ofWord, LOF.word])
@[simp] theorem LOS.laws : ElementLaws 1 LOS.enc LOS.dec :=
  elementLaws_of_word (n := 1) LOS.word LOS.ofWord
    (fun _ => by simp [LOS.ofWord, LOS.word]) (fun _ => by simp [LOS.ofWord, LOS.word])
@[simp] theorem FRQ.laws : ElementLaws 1 FRQ.enc FRQ.dec :=
  elementLaws_of_word (n := 1) FRQ.word FRQ.ofWord
    (fun _ => by simp [FRQ.ofWord, FRQ.word]) (fun _ => by simp [FRQ.ofWord, FRQ.word])
@[simp] theorem SRQ.laws : ElementLaws 1 SRQ.enc SRQ.dec :=
  elementLaws_of_word (n := 1) SRQ.word SRQ.ofWord
    (fun _ => by simp [SRQ.ofWord, SRQ.word]) (fun _ => by simp [SRQ.ofWord, SRQ.word])
@[simp] theorem SCQ.laws : ElementLaws 1 SCQ.enc SCQ.dec :=
  elementLaws_of_word (n := 1) SCQ.word SCQ.ofWord
    (fun _ => by simp [SCQ.ofWord, SCQ.word]) (fun _ => by simp [SCQ.ofWord, SCQ.word])
@[simp] theorem LSQ.laws : ElementLaws 1 LSQ.enc LSQ.dec :=
  elementLaws_of_word (n := 1) LSQ.word LSQ.ofWord
    (fun _ => by simp [LSQ.ofWord, LSQ.word]) (fun _ => by simp [LSQ.ofWord, LSQ.word])
@[simp] theorem CHS.laws : ElementLaws 1 CHS.enc CHS.dec :=
  elementLaws_of_word (n := 1) CHS.word CHS.ofWord
    (fun _ => by simp [CHS.ofWord, CHS.word]) (fun _ => by simp [CHS.ofWord, CHS.word])
@[simp] theorem AFQ.laws : ElementLaws 1 AFQ.enc AFQ.dec :=
  elementLaws_of_word (n := 1) AFQ.word AFQ.ofWord
    (fun _ => by simp [AFQ.ofWord, AFQ.word]) (fun _ => by simp [AFQ.ofWord, AFQ.word])
@[simp] theorem SOF.laws : ElementLaws 1 SOF.enc SOF.dec :=
  elementLaws_of_word (n := 1) SOF.word SOF.ofWord
    (fun _ => by simp [SOF.ofWord, SOF.word]) (fun _ => by simp [SOF.ofWord, SOF.word])

end Sys2Proof
end

section
/-! ## Payloads of the type identifiers

The encoder and the decoder of a type's payload are inverse (42_io_monitor.md R220, 43_io_control_file.md R302): field by
field by the laws of the elements, since the decoder skips as many octets as the fields before have. -/

namespace Sys2Proof

/-! ### Types of a fixed size -/

theorem Body.length_enc {t : TypeId} {body : Body} (h : body.typeId? = some t) (ht : t ≠ .fSgNa1) :
    body.enc.length = t.size := by
  cases body <;> cases h <;> simp [Body.enc, TypeId.size] at ht ⊢

theorem TypeId.decBody_enc {t : TypeId} {body : Body} (h : body.typeId? = some t) (ht : t ≠ .fSgNa1) :
    t.decBody body.enc = body := by
  cases body <;> cases h <;> simp [Body.enc, TypeId.decBody, List.drop_append, List.drop_eq_nil_of_le] at ht ⊢

theorem TypeId.enc_decBody {t : TypeId} {os : List Byte} (ht : t ≠ .fSgNa1) (h : os.length = t.size) :
    (t.decBody os).enc = os := by
  cases t <;> simp [TypeId.size] at h ht <;>
    simp [Body.enc, TypeId.decBody, h, ← List.take_add, -List.drop_one, -List.append_assoc]

theorem TypeId.typeId?_decBody (t : TypeId) (os : List Byte) : (t.decBody os).typeId? = some t := by
  cases t <;> rfl

/-! ### Type 125, whose payload holds its own length (43_io_control_file.md R302) -/

/-- The size of the payload of type `t` that a string starts with (30_encoding.md R108, R109), as `readObject` has it. -/
def payloadSize (t : TypeId) (os : List Byte) : Nat := if t = .fSgNa1 then 4 + (octet os 3).toNat else t.size

/-- The length octet of a segment holds its length. -/
def Body.SegFits (body : Body) : Prop := ∀ nof nos seg, body = .fSgNa1 nof nos seg → seg.length ≤ 255

theorem payloadSize_append {t : TypeId} {p rest : List Byte} (h : p.length = payloadSize t (p ++ rest)) :
    p.length = payloadSize t p := by
  by_cases ht : t = .fSgNa1
  · have hlen : 3 < p.length := by simp only [payloadSize, if_pos ht] at h; omega
    rw [h]
    simp [payloadSize, octet, List.getElem?_append_left hlen]
  · simpa only [payloadSize, if_neg ht] using h

/-- A payload decodes to a body that encodes to it. -/
theorem TypeId.enc_decBody_of_payloadSize {t : TypeId} {os : List Byte} (h : os.length = payloadSize t os) :
    (t.decBody os).SegFits ∧ (t.decBody os).enc = os := by
  by_cases ht : t = .fSgNa1
  · subst ht
    simp only [payloadSize, if_true] at h
    have hseg : slice os 4 (octet os 3).toNat = os.drop 4 := List.take_of_length_le (by simp; omega)
    have hlen : (os.drop 4).length = (octet os 3).toNat := by simp; omega
    have hbody : TypeId.decBody .fSgNa1 os = .fSgNa1 (NOF.dec os) (NOS.dec (os.drop 2)) (os.drop 4) := by
      rw [TypeId.decBody, hseg]
    have hoctet : octet os 3 :: os.drop 4 = os.drop 3 := by
      rw [octet, List.getD_eq_getElem os 0#8 (show 3 < os.length by omega), ← List.drop_eq_getElem_cons]
    constructor
    · rintro nof nos seg heq
      cases hbody.symm.trans heq
      have := (octet os 3).isLt
      omega
    · have htake : os.take 2 ++ (os.drop 2).take 1 = os.take 3 := List.take_add.symm
      rw [hbody, Body.enc, hlen, BitVec.ofNat_toNat, BitVec.setWidth_eq, hoctet]
      simp [show 2 ≤ os.length by omega, show 1 ≤ os.length - 2 by omega, htake]
  · rw [payloadSize, if_neg ht] at h
    refine ⟨fun nof nos seg heq => absurd ?_ ht, enc_decBody ht h⟩
    have htype := t.typeId?_decBody os
    rw [heq] at htype
    injection htype.symm

/-- The payload of a body, with any octets behind it, is read as the body. -/
theorem Body.payloadSize_enc {t : TypeId} {body : Body} (h : body.typeId? = some t) (hseg : body.SegFits)
    (rest : List Byte) : payloadSize t (body.enc ++ rest) = body.enc.length ∧ t.decBody body.enc = body := by
  by_cases ht : t = .fSgNa1
  · subst ht
    cases body <;> cases h
    next nof nos seg =>
    have hlt : seg.length % 256 = seg.length := Nat.mod_eq_of_lt (by have := hseg _ _ _ rfl; omega)
    constructor
    · simp [Body.enc, payloadSize, octet, List.getElem?_append, hlt]
      omega
    · simp [Body.enc, TypeId.decBody, octet, slice, List.getElem?_append, List.drop_append, List.drop_eq_nil_of_le,
        hlt]
  · exact ⟨by rw [payloadSize, if_neg ht, Body.length_enc h ht], TypeId.decBody_enc h ht⟩

end Sys2Proof
end

section
/-! ## What the operand readers of the decoder read

One `↔` for each reader: it reads a value exactly from the octets of the value, with anything behind them. From right to
left it is what decoding an encoded operand gives, and from left to right what a decoded operand encodes to. -/

namespace Sys2Proof

variable {os rest : List Byte} {n : Nat}

/-! ### Octets, numbers, strings -/

theorem readOctets_eq_some {s : List Byte} : readOctets n os = some (s, rest) ↔ s.length = n ∧ os = s ++ rest := by
  constructor
  · intro h
    simp only [readOctets] at h
    split at h
    · next hn => cases h; exact ⟨by simp [hn], (List.take_append_drop n os).symm⟩
    · cases h
  · rintro ⟨rfl, rfl⟩
    simp [readOctets]

theorem readNat_eq_some {v : Nat} : readNat n os = some (v, rest) ↔ v < 256 ^ n ∧ os = leOctets n v ++ rest := by
  simp only [readNat, Option.map_eq_some_iff, Prod.exists, readOctets_eq_some, Prod.mk.injEq]
  constructor
  · rintro ⟨s, _, ⟨hs, rfl⟩, rfl, rfl⟩
    exact ⟨fromLE_lt_of_length hs, by rw [leOctets_fromLE_of_length hs]⟩
  · rintro ⟨hv, rfl⟩
    exact ⟨leOctets n v, rest, ⟨leOctets_length n v, rfl⟩, fromLE_leOctets_of_lt hv, rfl⟩

/-- A number of `n` octets is the word that a field of as many bits holds. -/
theorem toNat_ofNat_of_lt {v : Nat} (h : v < 256 ^ n) : (BitVec.ofNat (8 * n) v).toNat = v := by
  rw [BitVec.toNat_ofNat, Nat.pow_mul]
  exact Nat.mod_eq_of_lt h

theorem readByte_eq_some {b : Byte} : readByte os = some (b, rest) ↔ os = b :: rest := by
  simp only [readByte, Option.map_eq_some_iff, Prod.exists, readNat_eq_some, Prod.mk.injEq]
  constructor
  · rintro ⟨v, _, ⟨-, rfl⟩, rfl, rfl⟩
    rfl
  · rintro rfl
    exact ⟨b.toNat, rest, ⟨b.isLt, by simp⟩, by simp, rfl⟩

theorem readU16_eq_some {w : BitVec 16} : readU16 os = some (w, rest) ↔ os = leOctets 2 w.toNat ++ rest := by
  simp only [readU16, Option.map_eq_some_iff, Prod.exists, readNat_eq_some, Prod.mk.injEq]
  constructor
  · rintro ⟨v, _, ⟨hv, rfl⟩, rfl, rfl⟩
    rw [toNat_ofNat_of_lt (n := 2) hv]
  · rintro rfl
    exact ⟨w.toNat, rest, ⟨w.isLt, rfl⟩, by simp, rfl⟩

theorem readBool_eq_some {b : Bool} : readBool os = some (b, rest) ↔ os = boolOctet b :: rest := by
  constructor
  · intro h
    simp only [readBool] at h
    split at h
    · next hr =>
      obtain rfl := readByte_eq_some.mp hr
      split at h
      · next hb => cases h; rw [hb]; rfl
      split at h
      · next hb => cases h; rw [hb]; rfl
      · cases h
    · cases h
  · rintro rfl
    cases b <;> rfl

theorem readString_eq_some {s : List Byte} :
    readString n os = some (s, rest) ↔ s.length < 256 ^ n ∧ os = stringOctets n s ++ rest := by
  constructor
  · intro h
    simp only [readString] at h
    split at h
    · next hr =>
      obtain ⟨hlt, rfl⟩ := readNat_eq_some.mp hr
      obtain ⟨rfl, rfl⟩ := readOctets_eq_some.mp h
      exact ⟨hlt, by simp [stringOctets]⟩
    · cases h
  · rintro ⟨hlt, rfl⟩
    have hn : readNat n (stringOctets n s ++ rest) = some (s.length, s ++ rest) :=
      readNat_eq_some.mpr ⟨hlt, by simp [stringOctets]⟩
    simp only [readString, hn]
    exact readOctets_eq_some.mpr ⟨rfl, rfl⟩

/-! ### Reading one operand after the other -/

theorem read_bind_eq_some {α β : Type} {read : Option (α × List Byte)} {f : α × List Byte → Option β} {r : β} :
    (read >>= f) = some r ↔ ∃ a os', read = some (a, os') ∧ f (a, os') = some r := by
  simp only [Option.bind_eq_bind, Option.bind_eq_some_iff, Prod.exists]

/-! ### Repeated operands -/

theorem readValues_eq_some : ∀ {n : Nat} {os rest : List Byte} {vs : List (BitVec 64)},
    readValues n os = some (vs, rest) ↔ vs.length = n ∧ os = vs.flatMap (fun v => leOctets 8 v.toNat) ++ rest
  | 0, os, rest, vs => by
    simp only [readValues, Option.some.injEq, Prod.mk.injEq, List.length_eq_zero_iff]
    constructor <;> (rintro ⟨rfl, rfl⟩; exact ⟨rfl, rfl⟩)
  | n + 1, os, rest, vs => by
    constructor
    · intro h
      simp only [readValues] at h
      split at h
      · next v _ hr =>
        obtain ⟨hv, rfl⟩ := readNat_eq_some.mp hr
        simp only [Option.map_eq_some_iff, Prod.exists, readValues_eq_some (n := n), Prod.mk.injEq] at h
        obtain ⟨vs, _, ⟨rfl, rfl⟩, rfl, rfl⟩ := h
        exact ⟨rfl, by simp [toNat_ofNat_of_lt (n := 8) hv]⟩
      · cases h
    · rintro ⟨hlen, rfl⟩
      obtain ⟨v, vs, rfl⟩ := List.exists_cons_of_length_eq_add_one hlen
      have hv : readNat 8 ((v :: vs).flatMap (fun v => leOctets 8 v.toNat) ++ rest) =
          some (v.toNat, vs.flatMap (fun v => leOctets 8 v.toNat) ++ rest) :=
        readNat_eq_some.mpr ⟨v.isLt, by simp⟩
      have hvs : readValues n (vs.flatMap (fun v => leOctets 8 v.toNat) ++ rest) = some (vs, rest) :=
        readValues_eq_some.mpr ⟨by simpa using hlen, rfl⟩
      simp only [readValues, hv, hvs, Option.map_some, BitVec.ofNat_toNat, BitVec.setWidth_eq]

theorem readPrivate_eq_some : ∀ {n : Nat} {os rest : List Byte} {ps : List PrivateType},
    readPrivate n os = some (ps, rest) ↔
      ps.length = n ∧ os = ps.flatMap (fun p => [p.typeId, p.size, boolOctet p.seq]) ++ rest
  | 0, os, rest, ps => by
    simp only [readPrivate, Option.some.injEq, Prod.mk.injEq, List.length_eq_zero_iff]
    constructor <;> (rintro ⟨rfl, rfl⟩; exact ⟨rfl, rfl⟩)
  | n + 1, os, rest, ps => by
    simp only [readPrivate, ↓read_bind_eq_some, readByte_eq_some, readBool_eq_some,
      readPrivate_eq_some (n := n), Option.some.injEq, Prod.mk.injEq]
    constructor
    · rintro ⟨t, _, rfl, size, _, rfl, seq, _, rfl, ps, _, ⟨rfl, rfl⟩, rfl, rfl⟩
      exact ⟨rfl, by simp⟩
    · rintro ⟨hlen, rfl⟩
      obtain ⟨p, ps, rfl⟩ := List.exists_cons_of_length_eq_add_one hlen
      exact ⟨p.typeId, _, rfl, p.size, _, rfl, p.seq, _, rfl, ps, rest, ⟨by simpa using hlen, rfl⟩, rfl, rfl⟩

/-! ### An operand that an encoder wrote -/

@[simp] theorem readByte_cons (b : Byte) (rest : List Byte) : readByte (b :: rest) = some (b, rest) :=
  readByte_eq_some.mpr rfl

@[simp] theorem readU16_leOctets (w : BitVec 16) (rest : List Byte) :
    readU16 (leOctets 2 w.toNat ++ rest) = some (w, rest) :=
  readU16_eq_some.mpr rfl

@[simp] theorem readBool_boolOctet (b : Bool) (rest : List Byte) : readBool (boolOctet b :: rest) = some (b, rest) :=
  readBool_eq_some.mpr rfl

theorem readNat_leOctets {v : Nat} (h : v < 256 ^ n) (rest : List Byte) :
    readNat n (leOctets n v ++ rest) = some (v, rest) :=
  readNat_eq_some.mpr ⟨h, rfl⟩

theorem readString_stringOctets {s : List Byte} (h : s.length < 256 ^ n) (rest : List Byte) :
    readString n (stringOctets n s ++ rest) = some (s, rest) :=
  readString_eq_some.mpr ⟨h, rfl⟩

/-! ### Operands that are records or enumerations -/

theorem readConfig_eq_some {cfg : ConfigOperand} :
    readConfig os = some (cfg, rest) ↔ cfg.wf = true ∧ os = cfg.encode ++ rest := by
  simp only [readConfig, ↓read_bind_eq_some, readByte_eq_some, readU16_eq_some, readPrivate_eq_some,
    Option.ite_none_right_eq_some, Option.some.injEq, Prod.mk.injEq]
  constructor
  · rintro ⟨cotLen, _, rfl, caLen, _, rfl, ioaLen, _, rfl, typeIdLen, _, rfl, maxAsduLen, _, rfl, k, _, rfl, w, _,
      rfl, linkAddrLen, _, rfl, linkMode, _, rfl, apciRole, _, rfl, strictLength, _, rfl, fcsMode, _, rfl, count, _, rfl,
      ps, _, ⟨hlen, rfl⟩, hrising, rfl, rfl⟩
    have hcount : ps.length ≤ 255 := by have := count.isLt; omega
    exact ⟨by simp [ConfigOperand.wf, hcount, hrising], by simp [ConfigOperand.encode, hlen]⟩
  · rintro ⟨hwf, rfl⟩
    simp only [ConfigOperand.wf, Bool.and_eq_true, decide_eq_true_eq] at hwf
    obtain ⟨hcount, hrising⟩ := hwf
    have hlen : (BitVec.ofNat 8 cfg.privateTypes.length).toNat = cfg.privateTypes.length :=
      toNat_ofNat_of_lt (n := 1) (Nat.lt_succ_of_le hcount)
    simp only [ConfigOperand.encode, List.append_assoc, List.cons_append, List.nil_append]
    exact ⟨_, _, rfl, _, _, rfl, _, _, rfl, _, _, rfl, _, _, rfl, _, _, rfl, _, _, rfl, _, _, rfl, _, _, rfl,
      _, _, rfl, _, _, rfl, _, _, rfl, BitVec.ofNat 8 cfg.privateTypes.length, _, rfl, _, _, ⟨hlen.symm, rfl⟩, hrising,
      rfl, rfl⟩

@[simp] theorem readConfig_encode {cfg : ConfigOperand} (h : cfg.wf = true) (rest : List Byte) :
    readConfig (cfg.encode ++ rest) = some (cfg, rest) :=
  readConfig_eq_some.mpr ⟨h, rfl⟩

theorem TypeId.ofByte?_eq_some {b : Byte} {t : TypeId} : TypeId.ofByte? b = some t ↔ b = t.code := by
  constructor
  · revert b t; decide
  · rintro rfl; cases t <;> rfl

theorem encode_of_readBody {body : BodyOperand} (h : readBody os = some (body, rest)) :
    body.wf = true ∧ os = body.encode ++ rest := by
  rw [readBody, read_bind_eq_some] at h
  obtain ⟨form, os, hform, h⟩ := h
  obtain rfl := readByte_eq_some.mp hform
  dsimp only at h
  split at h
  · next hraw =>
    simp only [read_bind_eq_some, readString_eq_some, Option.some.injEq, Prod.mk.injEq] at h
    obtain ⟨octets, _, ⟨hlen, rfl⟩, rfl, rfl⟩ := h
    exact ⟨by simpa [BodyOperand.wf] using hlen, by simp [BodyOperand.encode, hraw]⟩
  split at h
  · next hstd =>
    simp only [read_bind_eq_some, readByte_eq_some] at h
    obtain ⟨t, _, rfl, h⟩ := h
    rw [Option.bind_eq_bind, Option.bind_eq_some_iff] at h
    obtain ⟨variant, ht, h⟩ := h
    obtain rfl := TypeId.ofByte?_eq_some.mp ht
    simp only [Option.ite_none_left_eq_some, read_bind_eq_some, readValues_eq_some, Option.some.injEq,
      Prod.mk.injEq] at h
    obtain ⟨hvariant, values, _, ⟨hlen, rfl⟩, rfl, rfl⟩ := h
    exact ⟨by simp [BodyOperand.wf, hvariant, hlen], by simp [BodyOperand.encode, hstd]⟩
  split at h
  · next hsegment =>
    simp only [read_bind_eq_some, readNat_eq_some, readString_eq_some, Option.some.injEq, Prod.mk.injEq] at h
    obtain ⟨nof, _, ⟨hnof, rfl⟩, nos, _, ⟨hnos, rfl⟩, segment, _, ⟨hlen, rfl⟩, rfl, rfl⟩ := h
    exact ⟨by simpa [BodyOperand.wf] using hlen, by
      simp [BodyOperand.encode, hsegment, toNat_ofNat_of_lt (n := 8) hnof, toNat_ofNat_of_lt (n := 8) hnos]⟩
  · cases h

@[simp] theorem readBody_encode {body : BodyOperand} (h : body.wf = true) (rest : List Byte) :
    readBody (body.encode ++ rest) = some (body, rest) := by
  cases body with
  | raw octets =>
    have hlen : octets.length < 256 ^ 2 := by simpa [BodyOperand.wf] using h
    simp [readBody, BodyOperand.encode, readString_stringOctets hlen]
  | std variant values =>
    simp only [BodyOperand.wf, Bool.and_eq_true, decide_eq_true_eq] at h
    obtain ⟨hvariant, hlen⟩ := h
    have ht : TypeId.ofByte? variant.code = some variant := TypeId.ofByte?_eq_some.mpr rfl
    have hvs : readValues variant.fields.length (values.flatMap (fun v => leOctets 8 v.toNat) ++ rest) =
        some (values, rest) := readValues_eq_some.mpr ⟨hlen, rfl⟩
    simp [readBody, BodyOperand.encode, ht, hvariant, hvs]
  | seg nof nos segment =>
    have hlen : segment.length < 256 ^ 2 := by simpa [BodyOperand.wf] using h
    simp [readBody, BodyOperand.encode, readString_stringOctets hlen, readNat_leOctets (n := 8) nof.isLt,
      readNat_leOctets (n := 8) nos.isLt]

theorem readBody_eq_some {body : BodyOperand} :
    readBody os = some (body, rest) ↔ body.wf = true ∧ os = body.encode ++ rest :=
  ⟨encode_of_readBody, fun ⟨hwf, hos⟩ => hos ▸ readBody_encode hwf rest⟩

theorem readBuf_eq_some {b : Buf} : readBuf os = some (b, rest) ↔ os = b.octet :: rest := by
  constructor
  · intro h
    simp only [readBuf] at h
    split at h
    · next hr =>
      obtain rfl := readByte_eq_some.mp hr
      split at h
      · next heq => cases h; rw [heq]; rfl
      split at h
      · next heq => cases h; rw [heq]; rfl
      split at h
      · next heq => cases h; rw [heq]; rfl
      · cases h
    · cases h
  · rintro rfl
    cases b <;> rfl

@[simp] theorem readBuf_octet (b : Buf) (rest : List Byte) : readBuf (b.octet :: rest) = some (b, rest) :=
  readBuf_eq_some.mpr rfl

theorem ufnList_getElem?_eq_some {b : Byte} {fn : Ufn} : ufnList[b.toNat]? = some fn ↔ b = fn.octet := by
  constructor
  · revert b fn; decide
  · rintro rfl; cases fn <;> rfl

theorem readUfn_eq_some {fn : Ufn} : readUfn os = some (fn, rest) ↔ os = fn.octet :: rest := by
  constructor
  · intro h
    simp only [readUfn] at h
    split at h
    · next hr =>
      obtain rfl := readByte_eq_some.mp hr
      simp only [Option.map_eq_some_iff, Prod.mk.injEq, ufnList_getElem?_eq_some] at h
      obtain ⟨_, rfl, rfl, rfl⟩ := h
      rfl
    · cases h
  · rintro rfl
    cases fn <;> rfl

@[simp] theorem readUfn_octet (fn : Ufn) (rest : List Byte) : readUfn (fn.octet :: rest) = some (fn, rest) :=
  readUfn_eq_some.mpr rfl

end Sys2Proof
end

section
/-! ## Decoding and encoding

For each space: what its reader answers stands for the octets that it read (`standsFor_of_…`), and it answers an encoded
instruction (`decode_encode_of_…`). -/

namespace Sys2Proof

open Machine (ctlOctet classify ufnCode)

/-- What O2 asks of a decoded instruction: it is well formed and of the space, and its encoding and the octets left over
are the octets read. -/
def StandsFor (sp : Space) (first : Byte) (os : List Byte) (i : Instr) (rest : List Byte) : Prop :=
  i.wf = true ∧ i.space = sp ∧ encode i ++ rest = first :: os

theorem eq_ofNat_of_toNat_eq {w n : Nat} {b : BitVec w} (h : b.toNat = n) : b = BitVec.ofNat w n := by
  rw [← h, BitVec.ofNat_toNat, BitVec.setWidth_eq]

section
variable {first : Byte} {os rest : List Byte} {i : Instr}

/-! ### Commands (30_encoding.md R101, R103) -/

/-- The arms are numbered in the order of the opcodes. -/
theorem standsFor_of_readCommand (h : readCommand first os = some (some (i, rest))) :
    StandsFor .command first os i rest := by
  unfold readCommand at h
  split at h
  case h_26 => cases h
  all_goals
    rename_i hop
    obtain rfl := eq_ofNat_of_toNat_eq hop
    simp only [Option.some.injEq, ↓read_bind_eq_some, readByte_eq_some, readU16_eq_some, readBool_eq_some,
      readNat_eq_some, readString_eq_some, readConfig_eq_some, readBody_eq_some, readBuf_eq_some, readUfn_eq_some,
      Prod.mk.injEq] at h
  case h_1 | h_6 | h_12 | h_16 | h_18 | h_19 | h_20 | h_22 | h_24 =>
    obtain ⟨rfl, rfl⟩ := h
    exact ⟨rfl, rfl, rfl⟩
  case h_2 =>
    obtain ⟨cfg, _, ⟨hwf, rfl⟩, rfl, rfl⟩ := h
    exact ⟨hwf, rfl, rfl⟩
  case h_3 =>
    obtain ⟨sq, _, rfl, t, _, rfl, pn, _, rfl, cot, _, rfl, oa, _, rfl, ca, _, rfl, rfl, rfl⟩ := h
    exact ⟨rfl, rfl, rfl⟩
  case h_4 =>
    obtain ⟨type, _, rfl, ioa, _, ⟨hioa, rfl⟩, body, _, ⟨hwf, rfl⟩, rfl, rfl⟩ := h
    exact ⟨hwf, rfl, by simp [encode, toNat_ofNat_of_lt (n := 4) hioa]⟩
  case h_5 =>
    obtain ⟨type, _, rfl, count, _, rfl, data, _, ⟨hlen, rfl⟩, rfl, rfl⟩ := h
    exact ⟨decide_eq_true (Nat.le_of_lt_succ hlen), rfl, by simp [encode]⟩
  case h_7 =>
    obtain ⟨off, _, rfl, len, _, rfl, rfl, rfl⟩ := h
    exact ⟨rfl, rfl, by simp [encode]⟩
  case h_8 | h_23 | h_25 =>
    obtain ⟨b, _, rfl, rfl, rfl⟩ := h
    exact ⟨rfl, rfl, rfl⟩
  case h_9 =>
    obtain ⟨cot, _, rfl, pn, _, rfl, rfl, rfl⟩ := h
    exact ⟨rfl, rfl, rfl⟩
  case h_10 | h_11 =>
    obtain ⟨c, _, rfl, a, _, rfl, rfl, rfl⟩ := h
    exact ⟨rfl, rfl, rfl⟩
  case h_13 | h_14 =>
    obtain ⟨len, _, rfl, rfl, rfl⟩ := h
    exact ⟨rfl, rfl, rfl⟩
  case h_15 =>
    obtain ⟨qidx, _, rfl, ts, _, ⟨hts, rfl⟩, rfl, rfl⟩ := h
    exact ⟨rfl, rfl, by simp [encode, toNat_ofNat_of_lt (n := 8) hts]⟩
  case h_17 =>
    obtain ⟨fn, _, rfl, rfl, rfl⟩ := h
    exact ⟨rfl, rfl, rfl⟩
  case h_21 =>
    obtain ⟨buf, _, rfl, off, _, rfl, len, _, rfl, rfl, rfl⟩ := h
    exact ⟨rfl, rfl, by simp [encode]⟩

theorem decode_encode_of_command (hwf : i.wf = true) (hsp : i.space = .command) :
    decode .command (encode i ++ rest) = .ok (i, rest) := by
  cases i <;> cases hsp
  case reset cfg =>
    have hcfg : cfg.wf = true := hwf
    simp [decode, readRow, readCommand, encode, hcfg]
  case asduAddIo io =>
    have hbody : io.body.wf = true := hwf
    simp [decode, readRow, readCommand, encode, hbody, readNat_leOctets (n := 4) io.ioa.isLt]
  case asduSetRaw type count data =>
    have hlen : data.length < 256 ^ 1 := Nat.lt_succ_of_le (of_decide_eq_true hwf)
    simp [decode, readRow, readCommand, encode, readString_stringOctets hlen]
  case apciSendI tag =>
    simp [decode, readRow, readCommand, encode, readNat_leOctets (n := 8) tag.ts.isLt]
  all_goals simp [decode, readRow, readCommand, encode]

/-! ### Type rows (30_encoding.md R108, R113) -/

theorem Instr.ofObject?_eq_some {ioa : Ioa} {body : Body} {t : TypeId} (ht : body.typeId? = some t)
    (h : Instr.ofObject? ioa body = some i) :
    (i.wf = true ↔ body.SegFits) ∧ i.space = .asduType ∧ encode i = encodeObject ioa t body := by
  cases body <;> cases ht <;> cases h <;> refine ⟨?_, rfl, rfl⟩
  case fSgNa1 =>
    constructor
    · rintro hwf _ _ _ ⟨⟩
      exact of_decide_eq_true hwf
    · exact fun h => decide_eq_true (h _ _ _ rfl)
  all_goals exact ⟨fun _ _ _ _ h => (nomatch h), fun _ => rfl⟩

theorem exists_object_of_space (h : i.space = .asduType) :
    ∃ ioa t body,
      encode i = encodeObject ioa t body ∧ body.typeId? = some t ∧ Instr.ofObject? ioa body = some i := by
  cases i <;> cases h <;> exact ⟨_, _, _, rfl, rfl, rfl⟩

theorem readObject_eq_some {t : TypeId} :
    readObject t os = some (i, rest) ↔
      ∃ ioa body, body.typeId? = some t ∧ body.SegFits ∧ Instr.ofObject? ioa body = some i ∧
        os = leOctets 3 ioa.toNat ++ (body.enc ++ rest) := by
  constructor
  · intro h
    rw [readObject, read_bind_eq_some] at h
    obtain ⟨ioa, os, hr, h⟩ := h
    obtain ⟨hioa, rfl⟩ := readNat_eq_some.mp hr
    rw [read_bind_eq_some] at h
    obtain ⟨payload, _, hr, h⟩ := h
    obtain ⟨hlen, rfl⟩ := readOctets_eq_some.mp hr
    simp only [Option.bind_eq_bind, Option.bind_eq_some_iff, Option.some.injEq, Prod.mk.injEq] at h
    obtain ⟨_, hobject, rfl, rfl⟩ := h
    obtain ⟨hseg, henc⟩ := TypeId.enc_decBody_of_payloadSize (payloadSize_append hlen)
    exact ⟨_, _, t.typeId?_decBody _, hseg, hobject, by rw [henc, toNat_ofNat_of_lt (n := 3) hioa]⟩
  · rintro ⟨ioa, body, ht, hseg, hobject, rfl⟩
    obtain ⟨hsize, hbody⟩ := Body.payloadSize_enc ht hseg rest
    have hpayload : readOctets (payloadSize t (body.enc ++ rest)) (body.enc ++ rest) = some (body.enc, rest) :=
      readOctets_eq_some.mpr ⟨hsize.symm, rfl⟩
    unfold payloadSize at hpayload
    simp [readObject, readNat_leOctets (n := 3) ioa.isLt, hpayload, hbody, hobject]

theorem standsFor_of_readObject {t : TypeId} (ht : TypeId.ofByte? first = some t)
    (h : readObject t os = some (i, rest)) : StandsFor .asduType first os i rest := by
  obtain rfl := TypeId.ofByte?_eq_some.mp ht
  obtain ⟨ioa, body, htype, hseg, hobject, rfl⟩ := readObject_eq_some.mp h
  obtain ⟨hwf, hsp, henc⟩ := Instr.ofObject?_eq_some htype hobject
  exact ⟨hwf.mpr hseg, hsp, by simp [henc, encodeObject]⟩

theorem decode_encode_of_asduType (hwf : i.wf = true) (hsp : i.space = .asduType) :
    decode .asduType (encode i ++ rest) = .ok (i, rest) := by
  obtain ⟨ioa, t, body, henc, htype, hobject⟩ := exists_object_of_space hsp
  have hseg : body.SegFits := (Instr.ofObject?_eq_some htype hobject).1.mp hwf
  have ht : TypeId.ofByte? t.code = some t := TypeId.ofByte?_eq_some.mpr rfl
  have hr : readObject t (leOctets 3 ioa.toNat ++ (body.enc ++ rest)) = some (i, rest) :=
    readObject_eq_some.mpr ⟨ioa, body, htype, hseg, hobject, rfl⟩
  simp [decode, readRow, henc, encodeObject, ht, hr]

/-! ### APDU rows (30_encoding.md R110 to R112) -/

theorem eq_of_classify_i (h : classify first = .i) : first = first.extractLsb' 1 7 ++ 0#1 := by
  revert first; decide

theorem eq_of_classify_s (h : classify first = .s) : first = 0x01#8 := by
  revert first; decide

theorem eq_of_classify_u {fn : Ufn} (h : classify first = .u fn) : first = ufnCode fn := by
  revert first; cases fn <;> decide

theorem standsFor_of_readApdu (h : readApdu first os = some (some (i, rest))) : StandsFor .apci first os i rest := by
  simp only [readApdu] at h
  split at h
  case h_9 => cases h
  all_goals
    rename_i hc
    simp only [Option.some.injEq, ↓read_bind_eq_some, readByte_eq_some, readString_eq_some,
      Option.ite_none_right_eq_some, Prod.mk.injEq] at h
    obtain ⟨ctrl2, _, rfl, ctrl3, _, rfl, ctrl4, _, rfl, tail, _, ⟨-, rfl⟩, hfits, rfl, rfl⟩ := h
    refine ⟨hfits, rfl, ?_⟩
  case h_1 => simp [encode, encodeApdu, ← eq_of_classify_i hc]
  case h_2 => simp [encode, encodeApdu, ← eq_of_classify_s hc]
  all_goals simp [encode, encodeApdu, ← eq_of_classify_u hc]

theorem classify_i (ns7 : BitVec 7) : classify (ns7 ++ 0#1) = .i := by
  revert ns7; decide

theorem classify_s : classify 0x01#8 = .s := rfl

theorem classify_u (fn : Ufn) : classify (ufnCode fn) = .u fn := by
  cases fn <;> rfl

theorem decode_encode_of_apci (hwf : i.wf = true) (hsp : i.space = .apci) :
    decode .apci (encode i ++ rest) = .ok (i, rest) := by
  cases i <;> cases hsp
  all_goals
    rename_i tail
    have hfits : tailFits tail = true := hwf
    have hlen : tail.length < 256 ^ 1 := Nat.lt_of_le_of_lt (of_decide_eq_true hwf) (by decide)
  case iFrame =>
    simp [decode, readRow, readApdu, encode, encodeApdu, classify_i, readString_stringOctets hlen, hfits]
  case sFrame =>
    simp [decode, readRow, readApdu, encode, encodeApdu, classify_s, readString_stringOctets hlen, hfits]
  all_goals simp [decode, readRow, readApdu, encode, encodeApdu, classify_u, readString_stringOctets hlen, hfits]

/-! ### FT1.2 frame rows (45_ft12_link.md R360) -/

theorem standsFor_of_readFrame (h : readFrame first os = some (some (i, rest))) :
    StandsFor .ft12 first os i rest := by
  simp only [readFrame] at h
  split at h
  case h_4 => cases h
  all_goals
    rename_i hstart
    obtain rfl := eq_ofNat_of_toNat_eq hstart
    simp only [Option.some.injEq, ↓read_bind_eq_some, readString_eq_some, Option.ite_none_right_eq_some,
      Prod.mk.injEq] at h
    obtain ⟨tail, _, ⟨-, rfl⟩, hfits, rfl, rfl⟩ := h
    exact ⟨hfits, rfl, rfl⟩

theorem decode_encode_of_ft12 (hwf : i.wf = true) (hsp : i.space = .ft12) :
    decode .ft12 (encode i ++ rest) = .ok (i, rest) := by
  cases i <;> cases hsp
  all_goals
    rename_i tail
    have hfits : frameTailFits tail = true := hwf
    have hlen : tail.length < 256 ^ 2 := Nat.lt_of_le_of_lt (of_decide_eq_true hwf) (by decide)
    simp [decode, readRow, readFrame, encode, readString_stringOctets hlen, hfits]

/-! ### FT1.2 function code rows (45_ft12_link.md R361, R370 to R395) -/

theorem readAddr_eq_some {make : List Byte → Instr} :
    readAddr make os = some (i, rest) ↔
      ∃ addr, addrFits addr = true ∧ make addr = i ∧ os = stringOctets 1 addr ++ rest := by
  simp only [readAddr, ↓read_bind_eq_some, readString_eq_some, Option.ite_none_right_eq_some, Option.some.injEq,
    Prod.mk.injEq]
  constructor
  · rintro ⟨addr, _, ⟨-, rfl⟩, hfits, rfl, rfl⟩
    exact ⟨addr, hfits, rfl, rfl⟩
  · rintro ⟨addr, hfits, rfl, rfl⟩
    exact ⟨addr, rest, ⟨Nat.lt_of_le_of_lt (of_decide_eq_true hfits) (by decide), rfl⟩, hfits, rfl, rfl⟩

theorem readAddrUd_eq_some {make : List Byte → List Byte → Instr} :
    readAddrUd make os = some (i, rest) ↔
      ∃ addr ud, udFits addr ud = true ∧ make addr ud = i ∧
        os = stringOctets 1 addr ++ (stringOctets 1 ud ++ rest) := by
  simp only [readAddrUd, ↓read_bind_eq_some, readString_eq_some, Option.ite_none_right_eq_some, Option.some.injEq,
    Prod.mk.injEq]
  constructor
  · rintro ⟨addr, _, ⟨-, rfl⟩, ud, _, ⟨-, rfl⟩, hfits, rfl, rfl⟩
    exact ⟨addr, ud, hfits, rfl, rfl⟩
  · rintro ⟨addr, ud, hfits, rfl, rfl⟩
    have hlen : 1 + addr.length + ud.length ≤ 255 := of_decide_eq_true (Bool.and_eq_true_iff.mp hfits).2
    exact ⟨addr, _, ⟨by omega, rfl⟩, ud, rest, ⟨by omega, rfl⟩, hfits, rfl, rfl⟩

section
variable {c : Byte} {prm fc : Nat} {sp : Space}

theorem ctlOctet_of_bits (hprm : (c.extractLsb' 6 1).toNat = prm) (hfc : (c.extractLsb' 0 4).toNat = fc) :
    ctlOctet (c.extractLsb' 7 1) (.ofNat 1 prm) (c.extractLsb' 5 1) (c.extractLsb' 4 1) (.ofNat 4 fc) = c := by
  rw [← eq_ofNat_of_toNat_eq hprm, ← eq_ofNat_of_toNat_eq hfc, ctlOctet]
  simp

theorem standsFor_of_readAddr {make : List Byte → Instr}
    (hmake : ∀ addr, (make addr).wf = addrFits addr ∧ (make addr).space = sp ∧ encode (make addr) =
      encodeControl (c.extractLsb' 7 1) (.ofNat 1 prm) (c.extractLsb' 5 1) (c.extractLsb' 4 1) (.ofNat 4 fc)
        (stringOctets 1 addr))
    (hprm : (c.extractLsb' 6 1).toNat = prm) (hfc : (c.extractLsb' 0 4).toNat = fc)
    (h : readAddr make os = some (i, rest)) : StandsFor sp c os i rest := by
  obtain ⟨addr, hfits, rfl, rfl⟩ := readAddr_eq_some.mp h
  obtain ⟨hwf, hsp, henc⟩ := hmake addr
  exact ⟨hwf ▸ hfits, hsp, by rw [henc, encodeControl, ctlOctet_of_bits hprm hfc, List.cons_append]⟩

theorem standsFor_of_readAddrUd {make : List Byte → List Byte → Instr}
    (hmake : ∀ addr ud, (make addr ud).wf = udFits addr ud ∧ (make addr ud).space = sp ∧ encode (make addr ud) =
      encodeControl (c.extractLsb' 7 1) (.ofNat 1 prm) (c.extractLsb' 5 1) (c.extractLsb' 4 1) (.ofNat 4 fc)
        (stringOctets 1 addr ++ stringOctets 1 ud))
    (hprm : (c.extractLsb' 6 1).toNat = prm) (hfc : (c.extractLsb' 0 4).toNat = fc)
    (h : readAddrUd make os = some (i, rest)) : StandsFor sp c os i rest := by
  obtain ⟨addr, ud, hfits, rfl, rfl⟩ := readAddrUd_eq_some.mp h
  obtain ⟨hwf, hsp, henc⟩ := hmake addr ud
  exact ⟨hwf ▸ hfits, hsp, by
    rw [henc, encodeControl, ctlOctet_of_bits hprm hfc, List.cons_append, List.append_assoc]⟩

theorem standsFor_of_readUnbalanced (h : readUnbalanced c os = some (some (i, rest))) :
    StandsFor .ctlUnbalanced c os i rest := by
  unfold readUnbalanced at h
  dsimp only at h
  split at h
  case h_16 => cases h
  all_goals
    rename_i hprm hfc
    rw [Option.some.injEq] at h
  case h_3 | h_4 | h_11 => exact standsFor_of_readAddrUd (fun _ _ => ⟨rfl, rfl, rfl⟩) hprm hfc h
  all_goals exact standsFor_of_readAddr (fun _ => ⟨rfl, rfl, rfl⟩) hprm hfc h

theorem standsFor_of_readBalanced (h : readBalanced c os = some (some (i, rest))) :
    StandsFor .ctlBalanced c os i rest := by
  unfold readBalanced at h
  dsimp only at h
  split at h
  case h_12 => cases h
  all_goals
    rename_i hprm hfc
    rw [Option.some.injEq] at h
  case h_4 | h_5 => exact standsFor_of_readAddrUd (fun _ _ => ⟨rfl, rfl, rfl⟩) hprm hfc h
  all_goals exact standsFor_of_readAddr (fun _ => ⟨rfl, rfl, rfl⟩) hprm hfc h

theorem readAddr_stringOctets {addr : List Byte} (make : List Byte → Instr) (h : addrFits addr = true)
    (rest : List Byte) : readAddr make (stringOctets 1 addr ++ rest) = some (make addr, rest) :=
  readAddr_eq_some.mpr ⟨addr, h, rfl, rfl⟩

theorem readAddrUd_stringOctets {addr ud : List Byte} (make : List Byte → List Byte → Instr)
    (h : udFits addr ud = true) (rest : List Byte) :
    readAddrUd make (stringOctets 1 addr ++ (stringOctets 1 ud ++ rest)) = some (make addr ud, rest) :=
  readAddrUd_eq_some.mpr ⟨addr, ud, h, rfl, rfl⟩

theorem decode_encode_of_ctlUnbalanced (hwf : i.wf = true) (hsp : i.space = .ctlUnbalanced) :
    decode .ctlUnbalanced (encode i ++ rest) = .ok (i, rest) := by
  cases i <;> cases hsp
  case unbPriUserDataConfirm | unbPriUserDataNoReply | unbSecUserData =>
    simp [decode, readRow, readUnbalanced, encode, encodeControl, ctlOctet, readAddrUd_stringOctets _ hwf]
  all_goals
    simp [decode, readRow, readUnbalanced, encode, encodeControl, ctlOctet, readAddr_stringOctets _ hwf]

theorem decode_encode_of_ctlBalanced (hwf : i.wf = true) (hsp : i.space = .ctlBalanced) :
    decode .ctlBalanced (encode i ++ rest) = .ok (i, rest) := by
  cases i <;> cases hsp
  case balPriUserDataConfirm | balPriUserDataNoReply =>
    simp [decode, readRow, readBalanced, encode, encodeControl, ctlOctet, readAddrUd_stringOctets _ hwf]
  all_goals
    simp [decode, readRow, readBalanced, encode, encodeControl, ctlOctet, readAddr_stringOctets _ hwf]

end

/-! ### Every row -/

theorem standsFor_of_readRow {sp : Space} (h : readRow sp first os = some (some (i, rest))) :
    StandsFor sp first os i rest := by
  cases sp with
  | command => exact standsFor_of_readCommand h
  | asduType =>
    obtain ⟨t, ht, hr⟩ := Option.map_eq_some_iff.mp h
    exact standsFor_of_readObject ht hr
  | apci => exact standsFor_of_readApdu h
  | ft12 => exact standsFor_of_readFrame h
  | ctlUnbalanced => exact standsFor_of_readUnbalanced h
  | ctlBalanced => exact standsFor_of_readBalanced h

theorem decode_eq_ok {sp : Space} :
    decode sp os = .ok (i, rest) ↔
      ∃ first os', os = first :: os' ∧ readRow sp first os' = some (some (i, rest)) := by
  cases os with
  | nil => simp [decode]
  | cons first os =>
    rw [decode]
    split <;> simp [*]

end

/-- Settles O2: what a row's reader answers stands for the octets that it read. -/
theorem encodeDecode : Obligations.EncodeDecode := by
  intro sp os i rest h
  obtain ⟨first, os, rfl, hrow⟩ := decode_eq_ok.mp h
  exact standsFor_of_readRow hrow

/-- Settles O1, space by space. -/
theorem decodeEncode : Obligations.DecodeEncode := by
  intro i rest hwf
  cases hsp : i.space with
  | command => exact decode_encode_of_command hwf hsp
  | asduType => exact decode_encode_of_asduType hwf hsp
  | apci => exact decode_encode_of_apci hwf hsp
  | ft12 => exact decode_encode_of_ft12 hwf hsp
  | ctlUnbalanced => exact decode_encode_of_ctlUnbalanced hwf hsp
  | ctlBalanced => exact decode_encode_of_ctlBalanced hwf hsp

end Sys2Proof
end

section
/-! ## Presentations and steps -/

namespace Sys2Proof.Machine

/-- Settles O3, by evaluating the decoder on each of the six presentations. -/
theorem specWordsDecode : Obligations.SpecWordsDecode := by
  refine ⟨?command, ?asduType, ?apci, ?ft12, ?unbalanced, ?balanced⟩ <;> rfl

/-! ### A step decodes and executes -/

theorem step_present {s : State} {sp : Space} {os rest : List Byte} {later : List HostAction} {i : Instr}
    (hin : s.input = .present sp os :: later) (hdec : decode sp os = .ok (i, rest)) :
    step s = exec i { s with input := later } := by
  rw [step_cons hin, takeAction, present, hdec]

/-- What a lookup through spaces finds is what the octets decode to in the space that it names. -/
theorem decode_of_decodeIn {sp : Space} {i : Instr} {os : List Byte} :
    ∀ {sps : List Space}, decodeIn sps os = some (sp, i) → ∃ rest, decode sp os = .ok (i, rest)
  | [], h => nomatch h
  | first :: sps, h => by
    rw [decodeIn] at h
    split at h
    · next hdec => cases h; exact ⟨_, hdec⟩
    · exact decode_of_decodeIn h

theorem presentation_of_decodeIn {sp : Space} {i : Instr} {os : List Byte}
    (h : decodeIn Space.all os = some (sp, i)) : presentation os = .present sp os := by
  rw [presentation, h]

/-- Settles O4: a table word is presented in the space in which it decodes, so that both forms are `step_present`. -/
theorem stepRunsDecodedInstruction : Obligations.StepRunsDecodedInstruction := by
  refine ⟨fun s sp os rest later i => step_present, fun s nbits w i h => ?_⟩
  obtain ⟨⟨sp, _⟩, hin, rfl⟩ := Option.map_eq_some_iff.mp h
  obtain ⟨rest, hdec⟩ := decode_of_decodeIn hin
  have hnext : (s.withFetchWord nbits w).input = .present sp (tableOctets nbits w) :: s.input := by
    rw [State.withFetchWord, presentation_of_decodeIn hin]
  exact step_present hnext hdec

/-! ### Opcodes that are no command's (30_encoding.md R102) -/

/-- The opcodes of 30_encoding.md R101. -/
def opcodes : List Byte :=
  [0x00#8, 0x01#8, 0x10#8, 0x11#8, 0x12#8, 0x13#8, 0x14#8, 0x15#8, 0x16#8, 0x20#8, 0x21#8, 0x22#8, 0x23#8,
    0x30#8, 0x31#8, 0x32#8, 0x33#8, 0x34#8, 0x40#8, 0x41#8, 0x42#8, 0x43#8, 0x44#8, 0x45#8, 0x46#8]

theorem readCommand_eq_none {opcode : Byte} (h : opcode ∉ opcodes) (os : List Byte) :
    readCommand opcode os = none := by
  unfold readCommand
  split
  case h_26 => rfl
  all_goals
    rename_i hop
    rw [eq_ofNat_of_toNat_eq hop] at h
    exact absurd (by decide) h

/-- Settles O5: no arm of the command space's reader has the opcode, and UNKNOWN_COMMAND is no fatal status. -/
theorem unassignedOpcode : Obligations.UnassignedOpcode := by
  intro s opcode os later hin hop
  have hdec : decode .command (opcode :: os) = .error (.unassigned opcode) := by
    rw [decode, readRow, readCommand_eq_none hop]
  rw [step_cons hin, takeAction, present, hdec]
  exact State.raise_nonfatal (e := .unknownCommand) rfl _ _

end Sys2Proof.Machine
end

section
/-! ## Information elements (41_primitive_codecs.md R150 to R190) -/

namespace Sys2Proof

/-! ### Both directions of each codec (R150) -/

theorem ElementLaws.inverse {α : Type} {n : Nat} {enc : α → List Byte} {dec : List Byte → α}
    (h : ElementLaws n enc dec) : (∀ e, dec (enc e) = e) ∧ ∀ os : List Byte, os.length = n → enc (dec os) = os := by
  obtain ⟨-, dec_enc, -, enc_dec⟩ := h
  exact ⟨dec_enc, fun os hlen => (enc_dec os hlen.ge).trans (List.take_of_length_le hlen.le)⟩

/-- Settles O51: each element has the laws, with nothing behind its octets. -/
theorem elementsBijective : Obligations.ElementsBijective :=
  ⟨SIQ.laws.inverse, DIQ.laws.inverse, QDS.laws.inverse, VTI.laws.inverse, NVA.laws.inverse, SVA.laws.inverse,
    R32.laws.inverse, BSI.laws.inverse, BCR.laws.inverse, SEP.laws.inverse, SPE.laws.inverse, OCI.laws.inverse,
    QDP.laws.inverse, SCD.laws.inverse, CP16Time2a.laws.inverse, CP24Time2a.laws.inverse, CP56Time2a.laws.inverse,
    SCO.laws.inverse, DCO.laws.inverse, RCO.laws.inverse, QOS.laws.inverse, QOI.laws.inverse, QCC.laws.inverse,
    QRP.laws.inverse, COI.laws.inverse, QPM.laws.inverse, QPA.laws.inverse, FBP.laws.inverse, TSC.laws.inverse,
    NOF.laws.inverse, NOS.laws.inverse, LOF.laws.inverse, LOS.laws.inverse, FRQ.laws.inverse, SRQ.laws.inverse,
    SCQ.laws.inverse, LSQ.laws.inverse, CHS.laws.inverse, AFQ.laws.inverse, SOF.laws.inverse⟩

/-! ### The octets of each element -/

/-- Octet `k` of a number is its slice of 8 bits from bit `8 * k` up; here with the first `s` octets dropped. -/
theorem leOctets_toNat_shiftRight {v : Nat} (w : BitVec v) : ∀ n s : Nat,
    leOctets n (w.toNat >>> (8 * s)) = (List.range' s n).map fun k => w.extractLsb' (8 * k) 8
  | 0, _ => rfl
  | n + 1, s => by
    have hdrop : (w.toNat >>> (8 * s)) / 256 = w.toNat >>> (8 * (s + 1)) := by
      rw [Nat.mul_succ, Nat.shiftRight_add, Nat.shiftRight_eq_div_pow _ 8]
    rw [leOctets, hdrop, leOctets_toNat_shiftRight w n (s + 1)]
    rfl

theorem leOctets_toNat {v : Nat} (n : Nat) (w : BitVec v) :
    leOctets n w.toNat = (List.range n).map fun k => w.extractLsb' (8 * k) 8 := by
  rw [List.range_eq_range']
  exact leOctets_toNat_shiftRight w n 0

/-- `BitVec.extractLsb'_append_eq_of_add_le`, where the width of the whole may be a numeral. -/
theorem extractLsb'_append_within {m n s w : Nat} (hi : BitVec m) (lo : BitVec n) (h : s + w ≤ n) :
    @BitVec.extractLsb' (no_index (m + n)) s w
      (@HAppend.hAppend (BitVec m) (BitVec n) (no_index (BitVec (m + n))) _ hi lo) = lo.extractLsb' s w :=
  BitVec.extractLsb'_append_eq_of_add_le h

/-- A slice from bit 0 that reaches into the high part. -/
theorem extractLsb'_append_across {m n w : Nat} (hi : BitVec m) (lo : BitVec n) (h : n ≤ w) :
    @BitVec.extractLsb' (no_index (m + n)) 0 w
      (@HAppend.hAppend (BitVec m) (BitVec n) (no_index (BitVec (m + n))) _ hi lo) =
      (hi.extractLsb' 0 (w - n) ++ lo).cast (Nat.sub_add_cancel h) := by
  ext i hw
  rw [BitVec.getElem_cast, BitVec.getElem_append, BitVec.getElem_extractLsb', BitVec.getLsbD_append, Nat.zero_add]
  by_cases hlow : i < n
  · simp [hlow, BitVec.getLsbD_eq_getElem]
  · simp [hlow]

theorem BCR.enc_eq (e : BCR) :
    e.enc = [e.counter.extractLsb' 0 8, e.counter.extractLsb' 8 8, e.counter.extractLsb' 16 8,
      e.counter.extractLsb' 24 8, e.iv ++ e.ca ++ e.cy ++ e.sqn] := by
  simp [enc, word, leOctets_toNat, List.range_succ, extractLsb'_append_within]

theorem SCD.enc_eq (e : SCD) :
    e.enc = [e.st.extractLsb' 0 8, e.st.extractLsb' 8 8, e.cd.extractLsb' 0 8, e.cd.extractLsb' 8 8] := by
  simp [enc, word, leOctets_toNat, List.range_succ, extractLsb'_append_within]

theorem CP24Time2a.enc_eq (e : CP24Time2a) :
    e.enc = [e.ms.extractLsb' 0 8, e.ms.extractLsb' 8 8, e.iv ++ e.res1 ++ e.min] := by
  simp [enc, word, leOctets_toNat, List.range_succ, extractLsb'_append_within]

theorem CP56Time2a.enc_eq (e : CP56Time2a) :
    e.enc = [e.ms.extractLsb' 0 8, e.ms.extractLsb' 8 8, e.iv ++ e.res1 ++ e.min,
      e.su ++ e.res2 ++ e.hour, e.dow ++ e.day, e.res3 ++ e.mon, e.res4 ++ e.year] := by
  simp [enc, word, leOctets_toNat, List.range_succ, extractLsb'_append_within, extractLsb'_append_across]

/-- Settles O50: an element of one octet is its number, one of a single field is sliced, and four join several fields in
several octets. -/
theorem elementOctets : Obligations.ElementOctets := by
  refine ⟨?siq, ?diq, ?qds, ?vti, ?nva, ?sva, ?r32, ?bsi, ?bcr, ?sep, ?spe, ?oci, ?qdp, ?scd, ?cp16, ?cp24, ?cp56,
    ?sco, ?dco, ?rco, ?qos, ?qoi, ?qcc, ?qrp, ?coi, ?qpm, ?qpa, ?fbp, ?tsc, ?nof, ?nos, ?lof, ?los, ?frq, ?srq, ?scq,
    ?lsq, ?chs, ?afq, ?sof⟩ <;> intro e
  case bcr => exact e.enc_eq
  case scd => exact e.enc_eq
  case cp24 => exact e.enc_eq
  case cp56 => exact e.enc_eq
  case nva | sva | cp16 | fbp | tsc | nof => exact leOctets_toNat 2 _
  case lof => exact leOctets_toNat 3 _
  case r32 | bsi => exact leOctets_toNat 4 _
  all_goals exact leOctets_one _

end Sys2Proof
end

section
/-! ## Bodies and their octets (42_io_monitor.md R220, 43_io_control_file.md R302, 44_asdu_codec.md R328) -/

namespace Sys2Proof

/-- The size that V_PSIZE holds is the table's, which fits an octet; type 125 is the only one without a fixed size. -/
theorem TypeId.psize_eq_fixed {t : TypeId} {n : Byte} : t.psize = .fixed n ↔ t ≠ .fSgNa1 ∧ n.toNat = t.size := by
  cases t <;> simp [TypeId.psize, TypeId.size, ← BitVec.toNat_inj, eq_comm]

/-- The payload size of a type of a fixed size is the number of octets that its bodies encode to. -/
theorem TypeId.psize_eq_length_enc {t : TypeId} {body : Body} (h : body.typeId? = some t) (ht : t ≠ .fSgNa1) :
    t.psize = .fixed (BitVec.ofNat 8 body.enc.length) := by
  rw [Body.length_enc h ht, TypeId.psize]
  exact ht

/-- A segment takes four octets before its own (43_io_control_file.md R302). -/
theorem Body.length_enc_segment (nof : NOF) (nos : NOS) (seg : List Byte) :
    (Body.fSgNa1 nof nos seg).enc.length = 4 + seg.length := by
  obtain ⟨hnof, -⟩ := NOF.laws
  obtain ⟨hnos, -⟩ := NOS.laws
  simp only [Body.enc, List.length_append, List.length_cons, hnof nof, hnos nos]
  omega

/-- A segment fits its length octet up to 255 octets. -/
theorem Body.segFits_segment {nof : NOF} {nos : NOS} {seg : List Byte} (h : seg.length ≤ 255) :
    (Body.fSgNa1 nof nos seg).SegFits := by
  rintro _ _ _ ⟨⟩
  exact h

/-- Settles O52: a body is what its payload decodes to, and a payload of a fixed size is what its body encodes to. -/
theorem bodiesBijective : Obligations.BodiesBijective := by
  refine ⟨fun type body htype => ⟨?segment, fun ht => ?fixed⟩, ?payload⟩
  case segment =>
    rintro nof nos seg rfl hseg
    obtain ⟨-, hdec⟩ := Body.payloadSize_enc htype (Body.segFits_segment hseg) []
    exact ⟨hdec, Body.length_enc_segment nof nos seg⟩
  case fixed => exact ⟨TypeId.decBody_enc htype ht, TypeId.psize_eq_length_enc htype ht⟩
  case payload =>
    intro type size os hsize hlen
    obtain ⟨ht, hfixed⟩ := TypeId.psize_eq_fixed.mp hsize
    exact ⟨type.typeId?_decBody os, TypeId.enc_decBody ht (hlen.trans hfixed)⟩

end Sys2Proof
end

section
/-! ## Commands that refuse, and what stores leave

The terms of the claims (`refusal`, `Wrote`) for the operations of the ASDU unit, and the octets of an ASDU header as sums of
flags and fields (30_encoding.md R104 to R106). -/

namespace Sys2Proof.Machine

/-! ### Refusals -/

theorem State.raise_refuses {s : State} {e : Status} {info : BitVec 16} (hf : e.fatal = false) :
    s.raise e info = refusal s e.code info :=
  State.raise_nonfatal hf s info

/-- One check of a command against one `if` of its claim: refused where the claim says so, and else what follows. -/
theorem State.check_claim {s : State} {p q : Prop} [Decidable p] [Decidable q] {e : Status} {code : Byte}
    {info : BitVec 16} {k out : Out} {claim : Prop} (hout : out = s.check p e info k) (hf : e.fatal = false)
    (hcode : e.code = code) (hpq : p ↔ ¬ q) (hpass : p → out = k → claim) :
    if q then out = refusal s code info else claim := by
  split
  · next hq => rw [hout, State.check_neg (hpq.not_left.mpr hq), State.raise_refuses hf, hcode]
  · next hq => exact hpass (hpq.mpr hq) (hout.trans (State.check_pos (hpq.mpr hq)))

/-! ### Stores -/

theorem Mem.read_congr {m m' : Mem} : ∀ {a n : Nat}, (∀ x, a ≤ x → x < a + n → Mem.get m x = Mem.get m' x) →
    Mem.read m a n = Mem.read m' a n
  | _, 0, _ => rfl
  | a, n + 1, h => by
    rw [Mem.read, Mem.read, h a (by omega) (by omega),
      Mem.read_congr (a := a + 1) (n := n) fun x hx hx' => h x (by omega) (by omega)]

/-- `n + k` octets are the first `n` and the `k` behind them. -/
theorem Mem.read_add (m : Mem) : ∀ a n k : Nat, Mem.read m a (n + k) = Mem.read m a n ++ Mem.read m (a + n) k
  | _, 0, _ => by rw [Nat.zero_add]; rfl
  | a, n + 1, k => by
    rw [Nat.succ_add, Mem.read, Mem.read, Mem.read_add m (a + 1) n k, List.cons_append, Nat.add_right_comm, Nat.add_assoc a]

/-- One octet written over octets just written: as if it had stood among them. -/
theorem Mem.get_write_set {m : Mem} (hm : Mem.wf m = true) {os : List Byte} {i : Nat} (hi : i < os.length) (v : Byte)
    (x : Nat) : Mem.get (Mem.write (Mem.write m 0 os) i [v]) x = Mem.get (Mem.write m 0 (os.set i v)) x := by
  rw [Mem.get_write i [v] x (Mem.wf_write 0 os hm), Mem.get_write 0 os x hm, Mem.get_write 0 (os.set i v) x hm]
  simp only [List.length_set, List.length_singleton, Nat.zero_le, true_and, Nat.zero_add, Nat.sub_zero]
  by_cases hx : x = i
  · subst hx
    simp [octet, hi]
  · rw [if_neg (by omega)]
    simp [octet, List.getElem?_set_ne (Ne.symm hx)]

/-! ### Octets with flags (30_encoding.md R105, R106) -/

theorem vsqOctet_eq : ∀ (sq : Bool) (count : BitVec 7),
    vsqOctet sq count = (if sq = true then 0x80#8 else 0x00#8) + count.setWidth 8 := by
  decide

theorem causeOctet_eq_field : ∀ (t pn : Bool) (cause : BitVec 6),
    causeOctet t pn cause =
      (if t = true then 0x80#8 else 0x00#8) + (if pn = true then 0x40#8 else 0x00#8) + cause.setWidth 8 := by
  decide

theorem setWidth_setWidth_of_lt {v w : Nat} {b : BitVec v} (h : b.toNat < 2 ^ w) : (b.setWidth w).setWidth v = b := by
  apply BitVec.eq_of_toNat_eq
  rw [BitVec.toNat_setWidth, BitVec.toNat_setWidth, Nat.mod_eq_of_lt h, Nat.mod_eq_of_lt b.isLt]

theorem causeOctet_eq (t pn : Bool) {cot : Byte} (h : cot.toNat < 64) :
    causeOctet t pn (cot.setWidth 6) =
      (if t = true then 0x80#8 else 0x00#8) + (if pn = true then 0x40#8 else 0x00#8) + cot := by
  rw [causeOctet_eq_field, setWidth_setWidth_of_lt (w := 6) h]

end Sys2Proof.Machine
end

section
/-! ## The builder (44_asdu_codec.md R320 to R323) -/

namespace Sys2Proof.Machine

/-! ### ASDU_BEGIN -/

theorem leOctets_ca {c : Config} (hc : c.valid = true) (ca : BitVec 16) :
    leOctets c.caLen ca.toNat = if c.caLen = 2 then [ca.setWidth 8, (ca >>> 8).setWidth 8] else [ca.setWidth 8] := by
  obtain ⟨_, _, hlo, hhi, _⟩ := Config.valid_lengths hc
  have hlow : BitVec.ofNat 8 ca.toNat = ca.setWidth 8 := by bv_omega
  have hhigh : BitVec.ofNat 8 (ca.toNat / 256) = (ca >>> 8).setWidth 8 :=
    BitVec.eq_of_toNat_eq (by simp [Nat.shiftRight_eq_div_pow])
  obtain h | h : c.caLen = 1 ∨ c.caLen = 2 := by omega
  · simp [h, leOctets, hlow]
  · simp [h, leOctets, hlow, hhigh]

theorem length_beginHeader (c : Config) (sq t pn : Bool) (cot oa : Byte) (ca : BitVec 16) (hc : c.valid = true) :
    (beginHeader c sq t pn cot oa ca).length = c.hdrLen := by
  obtain ⟨hlo, hhi, _⟩ := Config.valid_lengths hc
  obtain h | h : c.cotLen = 1 ∨ c.cotLen = 2 := by omega
  all_goals simp [beginHeader, Config.hdrLen, h]; omega

theorem execAsduBegin_of_fits {c : Config} {s : State} {cot : Byte} {ca : BitVec 16} (sq t pn : Bool) (oa : Byte)
    (hc : s.config = some c) (hvalid : c.valid = true) (hcot : cot.toNat < 64) (hca : ca.toNat < 2 ^ (8 * c.caLen)) :
    execAsduBegin sq t pn cot oa ca s = .next ((s.begun c sq t pn cot oa ca).withStatus .ok 0#16) := by
  have hfit : 0 + (beginHeader c sq t pn cot oa ca).length ≤ Buf.abuf.size := by
    obtain ⟨_, _, _, _, _, _, hhdr, hmax⟩ := Config.valid_lengths hvalid
    rw [length_beginHeader c sq t pn cot oa ca hvalid, Buf.size]
    omega
  rw [execAsduBegin, State.configured_some hc, State.check_pos hcot, State.check_pos hca, State.store_inside hfit]
  rfl

/-- Settles O10: the two checks in turn, and then the header octets are the sums of their flags and fields. -/
theorem asduBegin : Obligations.AsduBegin := by
  intro c s sq t pn cot oa ca hc hvalid hmem out
  refine State.check_claim (State.configured_some hc) rfl rfl Nat.not_le.symm fun hcot hout => ?_
  refine State.check_claim hout rfl rfl Nat.not_le.symm fun hca _ => ?_
  refine ⟨_, execAsduBegin_of_fits sq t pn oa hc hvalid hcot hca, ?_, rfl⟩
  have hheader : beginHeader c sq t pn cot oa ca = _ ++ _ ++ _ := rfl
  rw [vsqOctet_eq, causeOctet_eq t pn hcot, leOctets_ca hvalid, BitVec.setWidth_zero, BitVec.add_zero] at hheader
  refine wrote_of_buf hmem (congrArg (Mem.write s.abuf 0) hheader) fun b hb => ?_
  cases b <;> first | rfl | exact absurd rfl hb

/-! ### ASDU_ENCODE -/

/-- Settles O14: two checks, and the length bounds are the builder's invariant. -/
theorem asduEncode : Obligations.AsduEncode := by
  intro c s hc hbuilder out
  refine State.check_claim (State.configured_some hc) rfl rfl (Bool.not_eq_false _).symm.to_iff fun hactive hout => ?_
  refine State.check_claim hout rfl rfl Iff.rfl fun htype hout => ?_
  obtain ⟨_, hmax, _, hsome⟩ := hbuilder hactive
  exact ⟨hout, fun hraw => ⟨(hsome htype hraw).2, hmax⟩⟩

/-! ### ASDU_SET_RAW -/

theorem execAsduSetRaw_of_fits {c : Config} {s : State} {type count : Byte} {data : List Byte} (hc : s.config = some c)
    (hvalid : c.valid = true) (hactive : s.builder.active = true)
    (hempty : s.builder.count = 0#7 ∧ s.builder.raw = false) (hcount : count.toNat ≤ 127)
    (hlen : s.builder.len.toNat + data.length ≤ c.maxAsduLen) :
    execAsduSetRaw type count data s = .next ((s.withRaw type count data).withStatus .ok 0#16) := by
  obtain ⟨_, _, _, _, _, _, _, hmax⟩ := Config.valid_lengths hvalid
  rw [execAsduSetRaw, State.configured_some hc, State.check_pos hactive, State.check_pos hempty, State.check_pos hcount,
    State.check_pos hlen, State.store_inside (by simp [Buf.size]), State.store_inside (show _ ≤ Buf.abuf.size from hlen.trans hmax)]
  rfl

/-- Settles O13: the four checks in turn; the data stand behind the header, so they leave its first two octets. -/
theorem asduSetRaw : Obligations.AsduSetRaw := by
  intro c s type count data hc hvalid hmem hbuilder _ b out
  refine State.check_claim (State.configured_some hc) rfl rfl (Bool.not_eq_false _).symm.to_iff fun hactive hout => ?_
  refine State.check_claim hout rfl rfl (by simp [b]) fun hempty hout => ?_
  refine State.check_claim hout rfl rfl Nat.not_lt.symm fun hcount hout => ?_
  refine State.check_claim hout rfl rfl Nat.not_lt.symm fun hlen _ => ?_
  refine ⟨_, execAsduSetRaw_of_fits hc hvalid hactive hempty hcount hlen, ?_⟩
  have hm := (hmem .abuf).1
  have hm' := Mem.wf_write 0 [type, vsqOctet b.sq (count.setWidth 7)] hm
  have hhdr : 2 ≤ s.builder.len.toNat := Nat.le_trans (by rw [Config.hdrLen]; omega) (hbuilder hactive).1
  refine ⟨?octet0, ?octet1, Mem.read_write _ _ hm', fun a hlo ha => ?others, rfl⟩
  case octet0 =>
    exact (Mem.get_write_outside hm' (.inl (by omega))).trans (Mem.get_write 0 _ 0 hm)
  case octet1 =>
    refine (Mem.get_write_outside hm' (.inl (by omega))).trans ((Mem.get_write 0 _ 1 hm).trans ?_)
    rw [vsqOctet_eq, setWidth_setWidth_of_lt (by omega)]
    rfl
  case others =>
    exact (Mem.get_write_outside hm' ha).trans (Mem.get_write_outside hm (.inr hlo))

/-! ### ASDU_ADD_IO -/

theorem elementPart_eq (c : Config) (b : Builder) (ioa : Nat) (body : Body) :
    elementPart c b ioa body =
      (if b.sq = true ∧ b.count ≠ 0#7 then [] else leOctets c.ioaLen ioa) ++ body.enc := by
  unfold elementPart
  split <;> rfl

theorem length_elementPart (c : Config) (b : Builder) (ioa : Nat) (body : Body) :
    (elementPart c b ioa body).length =
      (if b.sq = true ∧ b.count ≠ 0#7 then 0 else c.ioaLen) + body.enc.length := by
  rw [elementPart_eq, List.length_append, apply_ite List.length, leOctets_length, List.length_nil]

/-- The octets of ABUF after an object was stored: the type octet with the first object, the VSQ octet, and the object
at B_LEN. -/
theorem get_withElement {s : State} {type : Byte} {ioa : Nat} {part : List Byte} (hmem : s.MemOk)
    (hlen : 2 ≤ s.builder.len.toNat) (a : Nat) :
    Mem.get (s.withElement type ioa part).abuf a =
      if a = 0 then (if s.builder.count = 0#7 then type else Mem.get s.abuf 0)
      else if a = 1 then vsqOctet s.builder.sq (s.builder.count + 1#7)
      else Mem.get (Mem.write s.abuf s.builder.len.toNat part) a := by
  have hm : Mem.wf (Mem.write s.abuf s.builder.len.toNat part) = true := Mem.wf_write _ _ (hmem .abuf).1
  have hm' := Mem.wf_write 0 (if s.builder.count = 0#7 then [type] else []) hm
  rw [State.withElement, Mem.get_write 1 _ a hm', Mem.get_write 0 _ a hm]
  by_cases h0 : a = 0
  · subst h0
    by_cases hcount : s.builder.count = 0#7
    · simp [hcount, octet]
    · simpa [hcount] using Mem.get_write_outside (hmem .abuf).1 (.inl (Nat.lt_of_lt_of_le Nat.two_pos hlen))
  · have h0' : ¬ a < (if s.builder.count = 0#7 then [type] else []).length := by split <;> simp [h0]
    by_cases h1 : a = 1
    · subst h1
      rfl
    · rw [if_neg (by rw [List.length_singleton]; omega), if_neg (by simpa using h0'), if_neg h0, if_neg h1]

theorem Addable.elementPart_fits {c : Config} {b : Builder} {type : Byte} {ioa : Nat} {body : Body}
    (h : Addable c b type ioa body) : b.len.toNat + (elementPart c b ioa body).length ≤ c.maxAsduLen := by
  rw [length_elementPart, ← Nat.add_assoc]
  exact h.space

theorem addObject_of_addable {c : Config} {s : State} {type : Byte} {ioa : Nat} {body : Body} (hc : s.config = some c)
    (hvalid : c.valid = true) (h : Addable c s.builder type ioa body) :
    addObject type ioa (some body) s =
      .next ((s.withElement type ioa (elementPart c s.builder ioa body)).withStatus .ok 0#16) := by
  obtain ⟨_, _, _, _, _, _, _, hmax⟩ := Config.valid_lengths hvalid
  rw [addObject, State.configured_some hc, State.check_pos h.active, State.check_pos h.notRaw, State.check_pos h.known,
    State.check_pos h.sameType, State.check_pos h.ioaFits]
  simp only
  rw [State.check_pos h.bodyFits, appendObject, State.check_pos h.count, State.check_pos fun hs => h.seqFirst hs.1 hs.2,
    State.check_pos fun hs => h.seqNext hs.1 hs.2, State.check_pos h.elementPart_fits,
    storeElement_inside (h.elementPart_fits.trans hmax)]

/-- The stored object, in the terms of the claims. -/
theorem objectAdded_withElement {c : Config} {s : State} {type : Byte} {ioa : Nat} {body : Body} (hmem : s.MemOk)
    (hbuilder : builderOk c s.builder) (h : Addable c s.builder type ioa body) :
    ObjectAdded c s ((s.withElement type ioa (elementPart c s.builder ioa body)).withStatus .ok 0#16) type ioa body := by
  have hhdr : 2 ≤ s.builder.len.toNat := Nat.le_trans (by rw [Config.hdrLen]; omega) (hbuilder h.active).1
  have hm : Mem.wf s.abuf = true := (hmem .abuf).1
  simp only [ObjectAdded, ← elementPart_eq]
  refine ⟨?object, get_withElement hmem hhdr 0, ?vsq, fun a hlo ha => ?others, rfl⟩
  case object =>
    refine (Mem.read_congr fun x hx _ => ?_).trans (Mem.read_write s.builder.len.toNat _ hm)
    rw [State.withStatus_abuf, get_withElement hmem hhdr, if_neg (by omega), if_neg (by omega)]
  case vsq =>
    refine (get_withElement hmem hhdr 1).trans ?_
    have hcount := h.count
    rw [if_neg Nat.one_ne_zero, if_pos rfl, vsqOctet_eq]
    congr 1
    bv_omega
  case others =>
    refine (get_withElement hmem hhdr a).trans ?_
    rw [if_neg (by omega), if_neg (by omega)]
    exact Mem.get_write_outside hm ha

/-- Settles O11: the checks in turn; what fails none of them is `Addable`. -/
theorem asduAddIo : Obligations.AsduAddIo := by
  intro c s io hc hvalid hmem hbuilder b out
  refine State.check_claim (State.configured_some hc) rfl rfl (Bool.not_eq_false _).symm.to_iff fun hactive hout => ?_
  refine State.check_claim hout rfl rfl (Bool.not_eq_true _).symm.to_iff fun hraw hout => ?_
  refine State.check_claim hout rfl rfl Option.ne_none_iff_isSome.symm fun hknown hout => ?_
  refine State.check_claim hout rfl rfl (by simp only [b, not_and_or, not_not]) fun htype hout => ?_
  refine State.check_claim hout rfl rfl Nat.not_le.symm fun hioa hout => ?_
  refine ⟨fun hbody => ?_, fun body hbody => ?_⟩ <;> rw [hbody] at hout
  · exact hout.trans (State.raise_refuses rfl)
  refine State.check_claim hout rfl rfl (Bool.not_eq_false _).symm.to_iff fun hfits hout => ?_
  refine State.check_claim hout rfl rfl Nat.not_le.symm fun hcount hout => ?_
  refine State.check_claim hout rfl rfl (by simp [b]) fun hfirst hout => ?_
  refine State.check_claim hout rfl rfl (by simp [b]) fun hnext hout => ?_
  rw [length_elementPart] at hout
  refine State.check_claim hout rfl rfl Nat.not_lt.symm fun hlen _ => ?_
  have hadd : Addable c b io.type io.ioa.toNat body :=
    { active := hactive, notRaw := hraw, known := hknown, sameType := htype, ioaFits := hioa, bodyFits := hfits
      count := hcount, seqFirst := fun hsq h0 => hfirst ⟨hsq, h0⟩, seqNext := fun hsq h0 => hnext ⟨hsq, h0⟩
      space := by rw [Nat.add_assoc]; exact hlen }
  refine ⟨_, ?_, objectAdded_withElement hmem hbuilder hadd⟩
  exact (congrArg (fun body => addObject io.type io.ioa.toNat body s) hbody).trans (addObject_of_addable hc hvalid hadd)

/-! ### Type rows -/

theorem exec_of_ofObject? {i : Instr} {ioa : Ioa} {body : Body} {t : TypeId} (ht : body.typeId? = some t)
    (h : Instr.ofObject? ioa body = some i) (s : State) : exec i s = addTyped t ioa body s := by
  cases body <;> cases ht <;> cases h <;> rfl

/-- Settles O12: a type row is ASDU_ADD_IO of the object that it is built from. -/
theorem typeRowsAddObjects : Obligations.TypeRowsAddObjects := by
  intro i hi
  obtain ⟨ioa, type, body, _, htype, hobject⟩ := exists_object_of_space hi
  refine ⟨type, ioa, body, hobject, htype, fun c s hc hvalid hmem hbuilder hadd => ?_⟩
  exact ⟨_, (exec_of_ofObject? htype hobject s).trans (addObject_of_addable hc hvalid hadd),
    objectAdded_withElement hmem hbuilder hadd⟩

end Sys2Proof.Machine
end

section
/-! ## Field values of a body (44_asdu_codec.md R321 check 5) -/

namespace Sys2Proof

theorem packFields_lt : ∀ (ws : List (Nat × Bool)) (vs : List (BitVec 64)),
    packFields ws vs < 2 ^ (ws.map Prod.fst).sum
  | [], _ => Nat.one_pos
  | _ :: _, [] => Nat.two_pow_pos _
  | (w, _) :: ws, v :: vs => by
    have hlow : v.toNat % 2 ^ w < 2 ^ w := Nat.mod_lt _ (Nat.two_pow_pos w)
    calc v.toNat % 2 ^ w + 2 ^ w * packFields ws vs
        < 2 ^ w * (packFields ws vs + 1) := by rw [Nat.mul_succ]; omega
      _ ≤ 2 ^ w * 2 ^ (ws.map Prod.fst).sum := Nat.mul_le_mul_left _ (packFields_lt ws vs)
      _ = 2 ^ (((w, _) :: ws).map Prod.fst).sum := by rw [List.map_cons, List.sum_cons, Nat.pow_add]

/-- The fields of a type fill the octets of its payload. -/
theorem TypeId.sum_fields (t : TypeId) : (t.fields.map Prod.fst).sum = 8 * t.size := by
  cases t <;> rfl

theorem TypeId.packFields_fields_lt (t : TypeId) (values : List (BitVec 64)) :
    packFields t.fields values < 256 ^ t.size := by
  have h := packFields_lt t.fields values
  rwa [t.sum_fields, Nat.pow_mul] at h

theorem TypeId.bodyOfValues?_eq_some {t : TypeId} {values : List (BitVec 64)} {body : Body} (ht : t ≠ .fSgNa1) :
    t.bodyOfValues? values = some body ↔
      fitsFields t.fields values = true ∧ t.decBody (leOctets t.size (packFields t.fields values)) = body := by
  unfold TypeId.bodyOfValues?
  split
  · exact absurd rfl ht
  · rw [Option.ite_none_right_eq_some, Option.some.injEq]

/-- Settles O53: the packed values fit the type's octets, which decode to a body that encodes to them. -/
theorem fieldValuesPack : Obligations.FieldValuesPack := by
  intro type values ht
  refine ⟨?_, fun body hbody => ?_⟩
  · simp [Option.isSome_iff_exists, TypeId.bodyOfValues?_eq_some ht]
  · obtain ⟨_, rfl⟩ := (TypeId.bodyOfValues?_eq_some ht).mp hbody
    rw [TypeId.enc_decBody ht (leOctets_length _ _), fromLE_leOctets_of_lt (type.packFields_fields_lt values)]
    exact ⟨type.typeId?_decBody _, rfl⟩

end Sys2Proof
end

section
/-! ## Octets of an ASDU (30_encoding.md R104 to R108) -/

namespace Sys2Proof.Machine

/-! ### Octets of joined strings -/

theorem octet_append_left {os rest : List Byte} {i : Nat} (h : i < os.length) : octet (os ++ rest) i = octet os i := by
  rw [octet, octet, List.getD_append _ _ _ _ h]

theorem octet_append_right (os rest : List Byte) (i : Nat) : octet (os ++ rest) (os.length + i) = octet rest i := by
  rw [octet, octet, List.getD_append_right _ _ _ _ (Nat.le_add_right _ _), Nat.add_sub_cancel_left]

theorem slice_succ {os : List Byte} {i n : Nat} (h : i < os.length) :
    slice os i (n + 1) = octet os i :: slice os (i + 1) n := by
  rw [slice, List.drop_eq_getElem_cons h, List.take_succ_cons, octet, List.getD_eq_getElem _ _ h, slice]

/-- Where octets of a buffer are a string, each of them is the string's. -/
theorem Mem.get_of_read {m : Mem} {a i : Nat} {os : List Byte} (h : Mem.read m a os.length = os) (hi : i < os.length) :
    Mem.get m (a + i) = octet os i := by
  rw [← Mem.octet_read m a os.length i hi, h]

/-- Where octets of a buffer are three strings, its part in the middle is the second. -/
theorem Mem.read_middle {m : Mem} {a : Nat} {xs ys zs : List Byte}
    (h : Mem.read m a (xs ++ ys ++ zs).length = xs ++ ys ++ zs) : Mem.read m (a + xs.length) ys.length = ys := by
  rw [List.length_append, List.length_append, Mem.read_add, Mem.read_add] at h
  exact (List.append_inj (List.append_inj h (by simp)).1 (by simp)).2

/-! ### Header -/

theorem vsqSq_iff : ∀ b : Byte, vsqSq b = true ↔ 128 ≤ b.toNat := by
  decide

theorem causeT_iff : ∀ b : Byte, causeT b = true ↔ 128 ≤ b.toNat := by
  decide

theorem causePn_iff : ∀ b : Byte, causePn b = true ↔ 64 ≤ b.toNat % 128 := by
  decide

theorem headerOf_parseHeader {c : Config} {os : List Byte} (hc : c.valid = true) (hlen : c.hdrLen ≤ os.length) :
    HeaderOf c os (parseHeader c os) := by
  refine ⟨rfl, vsqSq_iff _, ?count, causeT_iff _, causePn_iff _, ?cot, rfl, ?ca⟩
  case count => simp [parseHeader, vsqCount]
  case cot => simp [parseHeader, causeCause]
  case ca =>
    obtain ⟨_, _, hlo, hhi, _⟩ := Config.valid_lengths hc
    rw [Config.hdrLen] at hlen
    have hlow := (octet os (2 + c.cotLen)).isLt
    obtain h | h : c.caLen = 1 ∨ c.caLen = 2 := by omega
    · have hslice : slice os (2 + c.cotLen) 1 = [octet os (2 + c.cotLen)] := slice_succ (by omega)
      simp only [parseHeader, h, hslice, fromLE, BitVec.toNat_ofNat]
      simp
      omega
    · have hslice : slice os (2 + c.cotLen) 2 = [octet os (2 + c.cotLen), octet os (3 + c.cotLen)] := by
        rw [slice_succ (by omega), slice_succ (by omega), Nat.add_right_comm 2]
        rfl
      have hhigh := (octet os (3 + c.cotLen)).isLt
      simp only [parseHeader, h, hslice, fromLE, BitVec.toNat_ofNat]
      simp
      omega

/-! ### Elements -/

/-- `need` of a type with elements of `size` octets (44_asdu_codec.md R324 step 6). -/
def fixedNeed (c : Config) (h : Header) (size : Byte) : Nat :=
  if h.sq = true then c.hdrLen + (if 0 < h.count.toNat then c.ioaLen + h.count.toNat * size.toNat else 0)
  else c.hdrLen + h.count.toNat * (c.ioaLen + size.toNat)

theorem needOf_fixed (c : Config) (h : Header) (size : Byte) (os : List Byte) :
    needOf c h (.fixed size) os =
      if fixedNeed c h size ≤ os.length then .ok (fixedNeed c h size) else .error (fixedNeed c h size) := rfl

theorem needOf_variable (c : Config) (h : Header) (os : List Byte) :
    needOf c h .variable os =
      if h.sq = true then .error 1 else walkSegments c.ioaLen os h.count.toNat c.hdrLen := rfl

/-- The walk steps over an element that is whole. -/
theorem walkSegments_element {c : Config} {pre e rest : List Byte} (he : SegmentOctets c e) (n : Nat) :
    walkSegments c.ioaLen (pre ++ e ++ rest) (n + 1) pre.length =
      walkSegments c.ioaLen (pre ++ e ++ rest) n (pre ++ e).length := by
  obtain ⟨hfour, hlen⟩ := he
  have hoctet : octet (pre ++ e ++ rest) (pre.length + c.ioaLen + 3) = octet e (c.ioaLen + 3) := by
    rw [List.append_assoc, Nat.add_assoc, octet_append_right, octet_append_left (by omega)]
  have hnext : pre.length + c.ioaLen + 4 + (octet e (c.ioaLen + 3)).toNat = (pre ++ e).length := by
    rw [List.length_append]
    omega
  simp only [walkSegments, hoctet, hnext]
  rw [if_neg (by simp only [List.length_append]; omega), if_neg (by simp)]

theorem walkSegments_elements {c : Config} {rest : List Byte} (n : Nat) : ∀ {els : List (List Byte)} (pre : List Byte),
    (∀ e, e ∈ els → SegmentOctets c e) →
    walkSegments c.ioaLen (pre ++ els.flatten ++ rest) (els.length + n) pre.length =
      walkSegments c.ioaLen (pre ++ els.flatten ++ rest) n (pre ++ els.flatten).length
  | [], pre, _ => by simp
  | e :: els, pre, h => by
    have ih := walkSegments_elements (rest := rest) n (pre ++ e) fun x hx => h x (List.mem_cons_of_mem _ hx)
    have hstep := walkSegments_element (pre := pre) (rest := els.flatten ++ rest) (h e List.mem_cons_self) (els.length + n)
    simp only [List.flatten_cons, List.length_cons, List.append_assoc, Nat.succ_add] at ih hstep ⊢
    rw [hstep, ih]

/-- The walk stops at a rest that is no whole element. -/
theorem walkSegments_rest {ioaLen : Nat} {pre rest : List Byte} (n : Nat) :
    walkSegments ioaLen (pre ++ rest) (n + 1) pre.length =
      if rest.length < ioaLen + 4 then .error pre.length
      else if (pre ++ rest).length < pre.length + ioaLen + 4 + (octet rest (ioaLen + 3)).toNat then
        .error (pre.length + ioaLen + 4 + (octet rest (ioaLen + 3)).toNat)
      else walkSegments ioaLen (pre ++ rest) n (pre.length + ioaLen + 4 + (octet rest (ioaLen + 3)).toNat) := by
  have hshort : (pre ++ rest).length < pre.length + (ioaLen + 4) ↔ rest.length < ioaLen + 4 := by
    rw [List.length_append, Nat.add_lt_add_iff_left]
  simp only [walkSegments, Nat.add_assoc pre.length, hshort, octet_append_right]

/-! ### The parse -/

theorem parseAsdu_short {c : Config} {os : List Byte} (h : os.length < c.hdrLen) : parseAsdu c os = .bad os.length :=
  if_pos h

section
variable {c : Config} {os : List Byte}

theorem parseAsdu_unknown (hlen : c.hdrLen ≤ os.length) (hpsize : psizeOf? c (octet os 0) = none) :
    parseAsdu c os = .unknown (parseHeader c os) := by
  have htype : psizeOf? c (parseHeader c os).type = none := hpsize
  simp only [parseAsdu, if_neg hlen.not_gt, htype]

theorem parseAsdu_error {psize : PSize} {info : Nat} (hlen : c.hdrLen ≤ os.length)
    (hpsize : psizeOf? c (octet os 0) = some psize) (hneed : needOf c (parseHeader c os) psize os = .error info) :
    parseAsdu c os = .bad info := by
  have htype : psizeOf? c (parseHeader c os).type = some psize := hpsize
  simp only [parseAsdu, if_neg hlen.not_gt, htype, hneed]

theorem parseAsdu_ok {psize : PSize} {need : Nat} (hlen : c.hdrLen ≤ os.length)
    (hpsize : psizeOf? c (octet os 0) = some psize) (hneed : needOf c (parseHeader c os) psize os = .ok need) :
    parseAsdu c os =
      if c.strictLength = true ∧ need ≠ os.length then .bad need else .good (parseHeader c os) psize need := by
  have htype : psizeOf? c (parseHeader c os).type = some psize := hpsize
  simp only [parseAsdu, if_neg hlen.not_gt, htype, hneed]

/-- What parses has a header. -/
theorem hdrLen_le_of_parseAsdu (h : ∀ info, parseAsdu c os ≠ .bad info) : c.hdrLen ≤ os.length :=
  Nat.le_of_not_lt fun hlt => h _ (parseAsdu_short hlt)

end

end Sys2Proof.Machine
end

section
/-! ## The view (44_asdu_codec.md R324 to R326) -/

namespace Sys2Proof.Machine

/-! ### ASDU_DECODE -/

/-- What ASDU_DECODE answers for what it finds in the octets. -/
def State.decoded (s : State) (off len : BitVec 16) : AsduParse → Out
  | .bad info => refusal { s with view.valid := false, elem.valid := false } 0x01#8 (BitVec.ofNat 16 info)
  | .unknown h =>
    refusal { s with view := { valid := true, known := false, off := off, len := len, psize := .fixed 0#8, hdr := h }
                     elem.valid := false } 0x02#8 (h.type.setWidth 16)
  | .good h psize need =>
    completes { s with view := { valid := true, known := true, off := off, len := BitVec.ofNat 16 need
                                 psize := psize, hdr := h }
                       elem.valid := false }

theorem execAsduDecode_of_parse {c : Config} {s : State} {off len : BitVec 16} {parse : AsduParse}
    (hc : s.config = some c) (hfit : off.toNat + len.toNat ≤ Buf.rxbuf.size)
    (h : parseAsdu c (Mem.read s.rxbuf off.toNat len.toNat) = parse) :
    execAsduDecode off len s = s.decoded off len parse := by
  rw [execAsduDecode, State.configured_some hc]
  simp only
  rw [State.check_pos hfit, State.load_inside hfit]
  simp only [State.buf_rxbuf, h]
  cases parse with
  | bad info => exact State.raise_refuses rfl
  | unknown h => exact State.raise_refuses rfl
  | good h psize need => rfl

/-- Settles O15: the checks in turn; the size of the elements is that of the table, so what they need is `fixedNeed`. -/
theorem asduDecodeFixedSize : Obligations.AsduDecodeFixedSize := by
  intro c s off len hc hvalid n os type failed out
  refine State.check_claim (State.configured_some hc) rfl rfl Nat.not_lt.symm fun hfit _ => ?_
  have hos : os.length = n := Mem.length_read _ _ _
  split
  · next hshort =>
    have hbad := execAsduDecode_of_parse hc hfit (parseAsdu_short (hos.trans_lt hshort))
    rwa [Mem.length_read, State.decoded, BitVec.ofNat_toNat, BitVec.setWidth_eq] at hbad
  next hhdr =>
  have hhdr : c.hdrLen ≤ os.length := hos ▸ Nat.le_of_not_lt hhdr
  refine fun _ => ⟨parseHeader c os, headerOf_parseHeader hvalid hhdr, fun hnone => ?_, fun size hsize => ?_⟩
  · exact execAsduDecode_of_parse hc hfit (parseAsdu_unknown hhdr hnone)
  have hneed := needOf_fixed c (parseHeader c os) size os
  rw [hos] at hneed
  intro count need
  split
  · next hlt =>
    exact execAsduDecode_of_parse hc hfit (parseAsdu_error hhdr hsize (hneed.trans (if_neg hlt.not_ge)))
  next hlt =>
  have hok := parseAsdu_ok hhdr hsize (hneed.trans (if_pos (Nat.le_of_not_lt hlt)))
  rw [hos] at hok
  split
  · next hstrict => exact execAsduDecode_of_parse hc hfit (hok.trans (if_pos hstrict))
  · next hstrict => exact execAsduDecode_of_parse hc hfit (hok.trans (if_neg hstrict))

/-- Settles O16: the walk steps over the whole elements, and the rest decides what it finds then. -/
theorem asduDecodeSegments : Obligations.AsduDecodeSegments := by
  intro c s off len hd rest els hc hvalid hfit hread hhd htype hels failed out p q
  have hhdr : c.hdrLen ≤ (hd ++ els.flatten ++ rest).length := by simp only [List.length_append]; omega
  have htake : (hd ++ els.flatten ++ rest).take c.hdrLen = hd := by rw [List.append_assoc, ← hhd, List.take_left]
  have hhead : parseHeader c hd = parseHeader c (hd ++ els.flatten ++ rest) :=
    (congrArg (parseHeader c) htake).symm.trans (parseHeader_take hvalid (Nat.le_refl _))
  have hpos : 0 < hd.length := by rw [hhd, Config.hdrLen]; omega
  have hpsize : psizeOf? c (octet (hd ++ els.flatten ++ rest) 0) = some .variable := by
    rw [List.append_assoc, octet_append_left hpos, htype]
    rfl
  refine ⟨parseHeader c hd, headerOf_parseHeader hvalid hhd.ge, ?_⟩
  have hneed := needOf_variable c (parseHeader c hd) (hd ++ els.flatten ++ rest)
  rw [← hhd] at hneed
  have hp : (hd ++ els.flatten).length = p := by rw [List.length_append, hhd]
  have bad {info : Nat} (h : needOf c (parseHeader c hd) .variable (hd ++ els.flatten ++ rest) = .error info) :
      out = refusal failed 0x01#8 (BitVec.ofNat 16 info) :=
    execAsduDecode_of_parse (parse := .bad info) hc hfit (hread ▸ parseAsdu_error hhdr hpsize (hhead ▸ h))
  split
  · next hsq => exact bad (hneed.trans (if_pos hsq))
  next hsq =>
  rw [if_neg hsq] at hneed
  split
  · next hcount =>
    have hwalk := walkSegments_elements (rest := rest) 0 hd hels
    rw [Nat.add_zero, hcount, hp] at hwalk
    have hok := parseAsdu_ok hhdr hpsize (hhead ▸ hneed.trans hwalk)
    have hrest : p ≠ (hd ++ els.flatten ++ rest).length ↔ rest ≠ [] := by
      rw [List.length_append, hp, ne_eq, ne_eq, ← List.length_eq_zero_iff]
      omega
    simp only [hrest, ← hhead] at hok
    split
    · next hstrict => exact execAsduDecode_of_parse hc hfit (hread ▸ hok.trans (if_pos hstrict))
    · next hstrict => exact execAsduDecode_of_parse hc hfit (hread ▸ hok.trans (if_neg hstrict))
  split
  · next hcount =>
    obtain ⟨n, hn⟩ := Nat.exists_eq_add_of_lt hcount
    rw [hn, Nat.add_assoc, walkSegments_elements _ hd hels, walkSegments_rest, hp] at hneed
    refine ⟨fun hshort => bad (hneed.trans (if_pos hshort)), fun hfour hlong => bad (hneed.trans ?_)⟩
    rw [if_neg hfour.not_gt, if_pos (by rwa [List.length_append, hp])]
  · trivial

/-! ### ASDU_GET_ELEMENT -/

theorem execAsduGetElement_of_known {c : Config} {s : State} {idx : Byte} {psize : PSize} (hc : s.config = some c)
    (hvalid : s.view.valid = true) (hknown : s.view.known = true) (hpsize : psizeOf? c s.view.hdr.type = some psize)
    (hidx : idx.toNat < s.view.hdr.count.toNat) : execAsduGetElement idx s = readElement c psize idx s := by
  rw [execAsduGetElement, State.configured_some hc]
  simp only
  rw [State.check_pos hvalid, State.check_pos hknown, State.check_pos hidx, hpsize]

theorem deliverElement_eq (idx : Byte) (io : IO) (s : State) :
    deliverElement idx io s =
      let t := { s with elem := { valid := true, index := idx.setWidth 7, io := io } }
      if io.type ∈ zeroIoaTypes ∧ io.ioa ≠ 0#24 then refusal t 0x0D#8 (io.ioa.setWidth 16) else completes t := by
  unfold deliverElement
  split
  · exact State.raise_refuses rfl
  · rfl

/-- The body that the payload octets of a known fixed-size type decode to encodes to them. -/
theorem enc_decOf {c : Config} {type size : Byte} {os : List Byte} (hpsize : psizeOf? c type = some (.fixed size))
    (hlen : os.length = size.toNat) : (decOf type os).enc = os := by
  cases hstd : TypeId.ofByte? type with
  | some std =>
    simp only [psizeOf?, hstd, Option.some.injEq, TypeId.psize_eq_fixed] at hpsize
    simp only [decOf, hstd]
    exact TypeId.enc_decBody hpsize.1 (hlen.trans hpsize.2)
  | none => simp only [decOf, hstd, Body.enc]

/-- An address that fits its field, as a register of 24 bits and as status info. -/
theorem ofNat_ioa {c : Config} (hc : c.valid = true) {ioa : Nat} (h : ioa < 2 ^ (8 * c.ioaLen)) :
    (BitVec.ofNat 24 ioa = 0#24 ↔ ioa = 0) ∧ (BitVec.ofNat 24 ioa).setWidth 16 = BitVec.ofNat 16 ioa := by
  obtain ⟨_, _, _, _, _, hlen, _⟩ := Config.valid_lengths hc
  have hlt : ioa < 2 ^ 24 := h.trans_le (Nat.pow_le_pow_right Nat.two_pos (by omega))
  exact ⟨by bv_omega, by bv_omega⟩

/-- Settles O17: the reads lie in RXBUF, and the decoded body is one of the type and encodes to what was read. -/
theorem asduGetElementFixedSize : Obligations.AsduGetElementFixedSize := by
  intro c s idx size hc hvalid hview hknown hpsize hidx type base at_ pay field ioa hfit
  have hlen : (Mem.read s.rxbuf pay size.toNat).length = size.toNat := Mem.length_read _ _ _
  have hfield : field < 2 ^ (8 * c.ioaLen) := by simpa using fromLE_lt (Mem.read s.rxbuf at_ c.ioaLen)
  have hioa : ioa < 2 ^ (8 * c.ioaLen) := by
    simp only [ioa]
    split
    · exact Nat.mod_lt _ (Nat.two_pow_pos _)
    · exact hfield
  have inside {a n : Nat} (h : a + n ≤ 261) : a + n ≤ Buf.rxbuf.size := h
  refine ⟨decOf type (Mem.read s.rxbuf pay size.toNat), bodyFits_decOf hpsize (by rintro n ⟨⟩; exact hlen),
    enc_decOf hpsize hlen, ?_⟩
  have hread : exec (.asduGetElement idx) s =
      deliverElement idx
        { type := type, ioa := BitVec.ofNat 24 ioa, body := decOf type (Mem.read s.rxbuf pay size.toNat) } s := by
    refine (execAsduGetElement_of_known hc hview hknown hpsize hidx).trans ?_
    simp only [readElement]
    by_cases hsq : s.view.hdr.sq = true
    · simp only [pay, at_, ioa, field, base, if_pos hsq] at hfit ⊢
      rw [State.load_inside (inside (by omega)), State.load_inside (inside hfit)]
      rfl
    · simp only [pay, at_, ioa, field, base, if_neg hsq] at hfit ⊢
      rw [State.load_inside (inside (by omega)), State.load_inside (inside hfit)]
      rfl
  obtain ⟨hzero, hinfo⟩ := ofNat_ioa hvalid hioa
  rw [hread, deliverElement_eq]
  simp only [ne_eq, hzero, hinfo, zeroIoaTypes]

/-- The search steps over the elements before the one that it seeks. -/
theorem seekSegment_elements {c : Config} {s : State} {k : Nat → Out} {rest : List Byte} :
    ∀ {els : List (List Byte)} {p : Nat}, (∀ e, e ∈ els → SegmentOctets c e) →
      p + (els.flatten ++ rest).length ≤ 261 →
      Mem.read s.rxbuf p (els.flatten ++ rest).length = els.flatten ++ rest →
      seekSegment c.ioaLen s k els.length p = k (p + els.flatten.length)
  | [], _, _, _, _ => rfl
  | e :: els, p, h, hfit, hread => by
    obtain ⟨hfour, hlen⟩ := h e List.mem_cons_self
    rw [List.flatten_cons, List.append_assoc] at hfit hread
    rw [List.length_append] at hfit hread
    rw [Mem.read_add] at hread
    obtain ⟨he, hels⟩ := List.append_inj hread (by simp)
    have hlos : octet (Mem.read s.rxbuf (p + c.ioaLen + 3) 1) 0 = octet e (c.ioaLen + 3) :=
      Mem.get_of_read (i := c.ioaLen + 3) he (by omega)
    have ih := seekSegment_elements (k := k) (p := p + e.length) (fun x hx => h x (List.mem_cons_of_mem _ hx))
      (by omega) hels
    have hnext : p + c.ioaLen + 4 + (octet e (c.ioaLen + 3)).toNat = p + e.length := by omega
    rw [List.length_cons, seekSegment, State.load_inside (by simp only [Buf.size]; omega), State.buf_rxbuf, hlos, hnext, ih,
      List.flatten_cons, List.length_append, Nat.add_assoc]

/-- The reads of an element of type 125 behind `els` are its address and its other octets. -/
theorem readElement_segment {c : Config} {s : State} {idx : Byte} {els : List (List Byte)} {e : List Byte}
    (hels : els.length = idx.toNat) (hwhole : ∀ x, x ∈ els → SegmentOctets c x) (he : SegmentOctets c e)
    (hfit : s.view.off.toNat + c.hdrLen + (els.flatten ++ e).length ≤ 261)
    (hread : Mem.read s.rxbuf (s.view.off.toNat + c.hdrLen) (els.flatten ++ e).length = els.flatten ++ e) :
    readElement c .variable idx s =
      deliverElement idx { type := s.view.hdr.type, ioa := BitVec.ofNat 24 (fromLE (e.take c.ioaLen))
                           body := decOf s.view.hdr.type (e.drop c.ioaLen) } s := by
  obtain ⟨hfour, hlen⟩ := he
  have hseek (k : Nat → Out) := seekSegment_elements (k := k) hwhole hfit hread
  rw [List.length_append] at hfit hread
  rw [Mem.read_add] at hread
  simp only [readElement, ← hels]
  generalize s.view.off.toNat + c.hdrLen = base at hseek hfit hread ⊢
  have hbytes := (List.append_inj hread (by simp)).2
  have haddr : Mem.read s.rxbuf (base + els.flatten.length) c.ioaLen = e.take c.ioaLen := by
    rw [← Mem.take_read _ _ e.length _ (by omega), hbytes]
  have hlos : octet (Mem.read s.rxbuf (base + els.flatten.length + c.ioaLen + 3) 1) 0 = octet e (c.ioaLen + 3) :=
    Mem.get_of_read (i := c.ioaLen + 3) hbytes (by omega)
  have hpay : Mem.read s.rxbuf (base + els.flatten.length + c.ioaLen) (4 + (octet e (c.ioaLen + 3)).toNat) =
      e.drop c.ioaLen := by
    have hsplit := Mem.read_add s.rxbuf (base + els.flatten.length) c.ioaLen (4 + (octet e (c.ioaLen + 3)).toNat)
    rw [← Nat.add_assoc, ← hlen, hbytes, haddr] at hsplit
    exact (List.append_cancel_left ((List.take_append_drop c.ioaLen e).trans hsplit)).symm
  have inside {a n : Nat} (h : a + n ≤ 261) : a + n ≤ Buf.rxbuf.size := h
  rw [hseek, State.load_inside (inside (by omega)), State.load_inside (inside (by omega)), State.buf_rxbuf, hlos,
    State.load_inside (inside (by omega)), State.buf_rxbuf, hpay, haddr]

theorem SegmentOctets.length_drop {c : Config} {e : List Byte} (he : SegmentOctets c e) :
    (e.drop c.ioaLen).length = payloadSize .fSgNa1 (e.drop c.ioaLen) := by
  obtain ⟨hfour, hlen⟩ := he
  have hoctet : octet (e.drop c.ioaLen) 3 = octet e (c.ioaLen + 3) := by
    rw [octet, octet, List.getD_eq_getElem?_getD, List.getD_eq_getElem?_getD, List.getElem?_drop]
  rw [payloadSize, if_pos rfl, hoctet, List.length_drop]
  omega

/-- Settles O18: the search finds the element, whose length octet says how much of it is read. -/
theorem asduGetElementSegment : Obligations.AsduGetElementSegment := by
  intro c s idx els e hc hvalid hview hknown htype hidx hels hwhole he hfit hread
  have hpsize : psizeOf? c s.view.hdr.type = some .variable := by rw [htype]; rfl
  refine ⟨decOf 125#8 (e.drop c.ioaLen), bodyFits_decOf (psize := .variable) rfl (by rintro n ⟨⟩),
    (TypeId.enc_decBody_of_payloadSize he.length_drop).2, ?_⟩
  refine (execAsduGetElement_of_known hc hview hknown hpsize hidx).trans ?_
  rw [readElement_segment hels hwhole he hfit hread, deliverElement_eq, htype]
  exact if_neg fun h => absurd (show 125#8 ∈ zeroIoaTypes from h.1) (by decide)

/-- Settles O19: each check clears E_VALID before it refuses. -/
theorem asduGetElementRefusals : Obligations.AsduGetElementRefusals := by
  intro c s idx hc failed out
  have hout : out = _ := State.configured_some hc
  refine ⟨fun hview => ?_, fun hview hknown => ?_, fun hview hknown hidx => ?_⟩
  · exact hout.trans ((State.check_neg (by simp [hview])).trans (State.raise_refuses rfl))
  · rw [State.check_pos hview] at hout
    exact hout.trans ((State.check_neg (by simp [hknown])).trans (State.raise_refuses rfl))
  · rw [State.check_pos hview, State.check_pos hknown] at hout
    exact hout.trans ((State.check_neg hidx.not_gt).trans (State.raise_refuses rfl))

/-! ### ASDU_REWRITE_COT -/

/-- A live view is at least a header long. -/
theorem viewOk.hdrLen_le {c : Config} {v : View} {rx : Mem} (h : viewOk c v rx) (hvalid : v.valid = true) :
    c.hdrLen ≤ v.len.toNat := by
  have hparse := (h hvalid).2
  have hlen := hdrLen_le_of_parseAsdu (c := c) (os := Mem.read rx v.off.toNat v.len.toNat) fun info hbad => by
    rw [hbad] at hparse
    split at hparse <;> cases hparse
  rwa [Mem.length_read] at hlen

theorem execAsduRewriteCot_of_fits {c : Config} {s : State} {cot : Byte} {pn : Bool} (hc : s.config = some c)
    (hview : s.view.valid = true) (hcot : cot.toNat < 64) (hlen : s.view.len.toNat ≤ 255)
    (hfit : s.view.off.toNat + s.view.len.toNat ≤ 261) :
    execAsduRewriteCot cot pn s = .next ((s.rewritten cot pn).withStatus .ok 0#16) := by
  rw [execAsduRewriteCot, State.configured_some hc, State.check_pos hview, State.check_pos hcot, State.check_pos hlen,
    State.load_inside hfit, State.store_inside (by rw [Mem.length_read, Nat.zero_add]; exact hlen),
    State.store_inside (by simp [Buf.size])]
  rfl

/-- Settles O20: the three checks in turn; the cause octet written last stands among the octets copied. -/
theorem asduRewriteCot : Obligations.AsduRewriteCot := by
  intro c s cot pn hc hvalid hmem hview v out
  refine State.check_claim (State.configured_some hc) rfl rfl (Bool.not_eq_false _).symm.to_iff fun hlive hout => ?_
  refine State.check_claim hout rfl rfl Nat.not_le.symm fun hcot hout => ?_
  refine State.check_claim hout rfl rfl Nat.not_lt.symm fun hlen _ => ?_
  refine ⟨_, execAsduRewriteCot_of_fits hc hlive hcot hlen (hview hlive).1, ?_, rfl⟩
  have hm : Mem.wf s.abuf = true := (hmem .abuf).1
  have htwo : 2 < (Mem.read s.rxbuf v.off.toNat v.len.toNat).length := by
    have hhdr := hview.hdrLen_le hlive
    obtain ⟨hcotLen, _, hcaLen, _⟩ := Config.valid_lengths hvalid
    rw [Config.hdrLen] at hhdr
    rw [Mem.length_read]
    exact Nat.lt_of_lt_of_le (by omega) hhdr
  rw [← causeOctet_eq v.hdr.t pn hcot]
  have hget (x : Nat) : Mem.get (s.rewritten cot pn).abuf x = _ :=
    Mem.get_write_set hm htwo (causeOctet v.hdr.t pn (cot.setWidth 6)) x
  refine ⟨?read, fun x hx => (hget x).trans (Mem.get_write_outside hm hx), fun b hb => ?others⟩
  case read => exact (Mem.read_congr fun x _ _ => hget x).trans (Mem.read_write 0 _ hm)
  case others => cases b <;> first | rfl | exact absurd rfl hb

end Sys2Proof.Machine
end

section
/-! ## Round trip (44_asdu_codec.md R328): what the builder holds

`Built c hdr objs s` says what ABUF and the B_* registers hold once ASDU_BEGIN with the header `hdr` was accepted and
then the objects `objs`. ASDU_BEGIN makes it hold of no object, and each accepted ASDU_ADD_IO of one object more. -/

namespace Sys2Proof.Machine

/-! ### Commands that end OK -/

theorem Status.code_eq_ok {e : Status} (h : e.code = 0x00#8) : e = .ok := by
  cases e <;> first | rfl | exact absurd h (by decide)

/-- A check of a command that ended OK has passed. -/
theorem State.check_ok {s t : State} {p : Prop} [Decidable p] {e : Status} {info : BitVec 16} {k : Out}
    (h : s.check p e info k = .next t) (hok : t.status = 0x00#8) (he : e ≠ .ok) (hf : e.fatal = false) :
    p ∧ k = .next t := by
  rcases State.check_next h with h | ⟨_, h⟩
  · exact h
  · rw [State.raise_nonfatal hf] at h
    cases h
    exact absurd (Status.code_eq_ok hok) he

theorem execAsduBegin_ok {c : Config} {s t : State} {hdr : MacroHeader} (hc : s.config = some c) (hvalid : c.valid = true)
    (h : execAsduBegin hdr.sq hdr.t hdr.pn hdr.cot hdr.oa hdr.ca s = .next t) (hok : t.status = 0x00#8) :
    hdr.ca.toNat < 2 ^ (8 * c.caLen) ∧
      t = (s.begun c hdr.sq hdr.t hdr.pn hdr.cot hdr.oa hdr.ca).withStatus .ok 0#16 := by
  have hchecks := h
  rw [execAsduBegin, State.configured_some hc] at hchecks
  obtain ⟨hcot, hchecks⟩ := State.check_ok hchecks hok (by decide) rfl
  obtain ⟨hca, -⟩ := State.check_ok hchecks hok (by decide) rfl
  rw [execAsduBegin_of_fits _ _ _ _ hc hvalid hcot hca] at h
  cases h
  exact ⟨hca, rfl⟩

theorem addable_of_addObject {c : Config} {s t : State} {type : Byte} {ioa : Nat} {body : Option Body}
    (hc : s.config = some c) (h : addObject type ioa body s = .next t) (hok : t.status = 0x00#8) :
    ∃ b, body = some b ∧ Addable c s.builder type ioa b := by
  rw [addObject, State.configured_some hc] at h
  obtain ⟨hactive, h⟩ := State.check_ok h hok (by decide) rfl
  obtain ⟨hraw, h⟩ := State.check_ok h hok (by decide) rfl
  obtain ⟨hknown, h⟩ := State.check_ok h hok (by decide) rfl
  obtain ⟨htype, h⟩ := State.check_ok h hok (by decide) rfl
  obtain ⟨hioa, h⟩ := State.check_ok h hok (by decide) rfl
  cases body with
  | none =>
    rw [State.raise_nonfatal rfl] at h
    cases h
    cases hok
  | some b =>
    obtain ⟨hfits, h⟩ := State.check_ok h hok (by decide) rfl
    obtain ⟨hcount, h⟩ := State.check_ok h hok (by decide) rfl
    obtain ⟨hfirst, h⟩ := State.check_ok h hok (by decide) rfl
    obtain ⟨hnext, h⟩ := State.check_ok h hok (by decide) rfl
    obtain ⟨hlen, -⟩ := State.check_ok h hok (by decide) rfl
    rw [length_elementPart, ← Nat.add_assoc] at hlen
    exact ⟨b, rfl, hactive, hraw, hknown, htype, hioa, hfits, hcount, fun hsq h0 => hfirst ⟨hsq, h0⟩,
      fun hsq h0 => hnext ⟨hsq, h0⟩, hlen⟩

theorem execAsduEncode_ok {c : Config} {s t : State} (hc : s.config = some c) (h : execAsduEncode s = .next t)
    (hok : t.status = 0x00#8) : t = { s with asduLen := s.builder.len }.withStatus .ok 0#16 := by
  rw [execAsduEncode, State.configured_some hc] at h
  obtain ⟨-, h⟩ := State.check_ok h hok (by decide) rfl
  obtain ⟨-, h⟩ := State.check_ok h hok (by decide) rfl
  cases h
  rfl

/-- A list of commands that ended OK ran its first to OK, and then the others. -/
theorem runMacro_cons_ok {i : Instr} {rest : List Instr} {s t : State} (h : runMacro (i :: rest) s = .next t)
    (hok : t.status = 0x00#8) : ∃ u, exec i s = .next u ∧ u.status = 0x00#8 ∧ runMacro rest u = .next t := by
  rw [runMacro] at h
  split at h
  · next u hu =>
    split at h
    · next hstatus => exact ⟨u, hu, hstatus, h⟩
    · next hstatus =>
      cases h
      exact absurd hok hstatus
  · cases h
  · cases h

/-! ### The list of objects -/

/-- An object with its address (30_encoding.md R108). -/
def objectOctets (c : Config) (o : IO) : List Byte := leOctets c.ioaLen o.ioa.toNat ++ o.body.enc

/-- The octets behind the header: in a sequence only the first object has its address (30_encoding.md R108). -/
def listOctets (c : Config) (sq : Bool) (objs : List IO) : List Byte :=
  if sq = true then
    ((objs.take 1).map fun o => leOctets c.ioaLen o.ioa.toNat).flatten ++ (objs.map fun o => o.body.enc).flatten
  else (objs.map (objectOctets c)).flatten

theorem listOctets_snoc (c : Config) (sq : Bool) (objs : List IO) (o : IO) :
    listOctets c sq (objs ++ [o]) =
      listOctets c sq objs ++
        ((if sq = true ∧ objs ≠ [] then [] else leOctets c.ioaLen o.ioa.toNat) ++ o.body.enc) := by
  cases sq with
  | false => simp [listOctets, objectOctets]
  | true => cases objs <;> simp [listOctets]

/-- The object at a place of the list, as the builder's registers and checks have it. -/
structure Listed (c : Config) (b : Builder) (i : Nat) (o : IO) : Prop where
  type  : b.type = some o.type
  known : (psizeOf? c o.type).isSome = true
  fits  : bodyFits c o.type o.body = true
  ioa   : o.ioa.toNat < 2 ^ (8 * c.ioaLen)
  seq   : b.sq = true → o.ioa.toNat = b.firstIoa.toNat + i ∧ seqOk c o.type = true

/-- The header octets behind the VSQ octet. -/
def headerTail (c : Config) (hdr : MacroHeader) : List Byte :=
  causeOctet hdr.t hdr.pn (hdr.cot.setWidth 6) :: ((if c.cotLen = 2 then [hdr.oa] else []) ++
    leOctets c.caLen hdr.ca.toNat)

theorem length_headerTail {c : Config} (hc : c.valid = true) (hdr : MacroHeader) :
    2 + (headerTail c hdr).length = c.hdrLen := by
  have h := length_beginHeader c hdr.sq hdr.t hdr.pn hdr.cot hdr.oa hdr.ca hc
  simp only [beginHeader, headerTail, List.length_append, List.length_cons, List.length_nil] at h ⊢
  omega

/-- What the builder holds after its header and these objects. -/
structure Built (c : Config) (hdr : MacroHeader) (objs : List IO) (s : State) : Prop where
  config  : s.config = some c
  mem     : s.MemOk
  bounds  : builderOk c s.builder
  active  : s.builder.active = true
  sq      : s.builder.sq = hdr.sq
  oa      : s.builder.oa = if c.cotLen = 2 then hdr.oa else 0#8
  count   : s.builder.count.toNat = objs.length
  len     : s.builder.len.toNat = c.hdrLen + (listOctets c hdr.sq objs).length
  type    : ∀ type, s.builder.type = some type → s.octetAt .abuf 0 = type
  vsq     : s.octetAt .abuf 1 = vsqOctet hdr.sq s.builder.count
  tail    : Mem.read s.abuf 2 (headerTail c hdr).length = headerTail c hdr
  list    : Mem.read s.abuf c.hdrLen (listOctets c hdr.sq objs).length = listOctets c hdr.sq objs
  objects : ∀ i o, objs[i]? = some o → Listed c s.builder i o

theorem built_begun {c : Config} {s : State} {hdr : MacroHeader} (hc : s.config = some c) (hvalid : c.valid = true)
    (hmem : s.MemOk) :
    Built c hdr [] ((s.begun c hdr.sq hdr.t hdr.pn hdr.cot hdr.oa hdr.ca).withStatus .ok 0#16) := by
  obtain ⟨_, _, _, _, _, _, hhdr, hmax⟩ := Config.valid_lengths hvalid
  have hm : Mem.wf s.abuf = true := (hmem .abuf).1
  have hlist : listOctets c hdr.sq [] = [] := by cases hdr.sq <;> rfl
  have hheader : beginHeader c hdr.sq hdr.t hdr.pn hdr.cot hdr.oa hdr.ca =
      [0x00#8, vsqOctet hdr.sq 0#7] ++ headerTail c hdr := by
    simp [beginHeader, headerTail]
  have hread := Mem.read_write (m := s.abuf) 0 ([0x00#8, vsqOctet hdr.sq 0#7] ++ headerTail c hdr) hm
  have hlen : 0 + (beginHeader c hdr.sq hdr.t hdr.pn hdr.cot hdr.oa hdr.ca).length ≤ Buf.abuf.size := by
    rw [length_beginHeader c _ _ _ _ _ _ hvalid, Buf.size]
    omega
  refine
    { config := hc, mem := ?mem, bounds := builderOk_begun (s := s) hvalid, active := rfl, sq := rfl, oa := rfl, count := rfl
      len := ?len, type := fun _ h => (nomatch h), vsq := ?vsq, tail := ?tail, list := ?list
      objects := fun _ _ h => (nomatch h) }
  case mem =>
    obtain ⟨hrx, htx, hab⟩ := State.memOk_iff.mp hmem
    exact State.memOk_iff.mpr ⟨hrx, htx, hab.write hlen⟩
  case len =>
    rw [hlist, List.length_nil, Nat.add_zero]
    exact (BitVec.toNat_ofNat ..).trans (Nat.mod_eq_of_lt (by omega))
  case vsq =>
    refine (congrArg (fun os => Mem.get (Mem.write s.abuf 0 os) 1) hheader).trans ?_
    exact Mem.get_of_read (i := 1) hread (by simp)
  case tail =>
    refine (congrArg (fun os => Mem.read (Mem.write s.abuf 0 os) 2 (headerTail c hdr).length) hheader).trans ?_
    exact Mem.read_middle (a := 0) (xs := [0x00#8, vsqOctet hdr.sq 0#7]) (zs := []) (by rw [List.append_nil]; exact hread)
  case list => rw [hlist]; rfl

section
variable {c : Config} {hdr : MacroHeader} {objs : List IO} {s : State}

theorem Built.count_eq_zero (h : Built c hdr objs s) : s.builder.count = 0#7 ↔ objs = [] := by
  rw [← List.length_eq_zero_iff, ← h.count]
  exact ⟨fun h0 => by rw [h0]; rfl, fun h0 => BitVec.eq_of_toNat_eq h0⟩

theorem Built.two_le_len (h : Built c hdr objs s) : 2 ≤ s.builder.len.toNat := by
  rw [h.len, Config.hdrLen]
  omega

/-- An object that the builder accepts is the next one of the list. -/
theorem Listed.of_addable {type : Byte} {ioa : Ioa} {body : Body} {n : Nat} (h : Built c hdr objs s)
    (hadd : Addable c s.builder type ioa.toNat body) :
    Listed c (s.builder.added type ioa.toNat n) objs.length { type := type, ioa := ioa, body := body } := by
  by_cases h0 : objs = []
  · have hcount := h.count_eq_zero.mpr h0
    refine ⟨?_, hadd.known, hadd.bodyFits, hadd.ioaFits, fun hsq => ⟨?_, hadd.seqFirst hsq hcount⟩⟩
    · simp [Builder.added, hcount]
    · simp [Builder.added, hcount, h0]
  · have hcount : s.builder.count ≠ 0#7 := fun hz => h0 (h.count_eq_zero.mp hz)
    have hpos := List.length_pos_iff.mpr h0
    have hfirst := h.objects 0 _ (List.getElem?_eq_getElem hpos)
    have htype : s.builder.type = some type := by
      rcases hadd.sameType with hnone | hsome
      · cases hnone.symm.trans hfirst.type
      · exact hsome
    have hsame : objs[0].type = type := Option.some.inj (hfirst.type.symm.trans htype)
    refine ⟨?_, hadd.known, hadd.bodyFits, hadd.ioaFits, fun hsq => ⟨?_, hsame ▸ (hfirst.seq hsq).2⟩⟩
    · simpa [Builder.added, hcount] using htype
    · simpa [Builder.added, hcount, h.count] using hadd.seqNext hsq hcount

/-- The objects before it stay where they are. -/
theorem Listed.added {i n : Nat} {o : IO} {type : Byte} {ioa : Nat} (h : Listed c s.builder i o)
    (hcount : s.builder.count ≠ 0#7) : Listed c (s.builder.added type ioa n) i o := by
  refine ⟨?_, h.known, h.fits, h.ioa, fun hsq => ?_⟩
  · simpa [Builder.added, hcount] using h.type
  · simpa [Builder.added, hcount] using h.seq hsq

theorem Built.elementPart_eq (h : Built c hdr objs s) (type : Byte) (ioa : Ioa) (body : Body) :
    listOctets c hdr.sq (objs ++ [{ type := type, ioa := ioa, body := body }]) =
      listOctets c hdr.sq objs ++ elementPart c s.builder ioa.toNat body := by
  simp only [listOctets_snoc, Machine.elementPart_eq, ne_eq, h.count_eq_zero, h.sq]

theorem Built.add (h : Built c hdr objs s) (hvalid : c.valid = true) {type : Byte} {ioa : Ioa} {body : Body}
    (hadd : Addable c s.builder type ioa.toNat body) :
    Built c hdr (objs ++ [{ type := type, ioa := ioa, body := body }])
      ((s.withElement type ioa.toNat (elementPart c s.builder ioa.toNat body)).withStatus .ok 0#16) := by
  obtain ⟨hpart, htype, -, hothers, -⟩ := objectAdded_withElement h.mem h.bounds hadd
  rw [← Machine.elementPart_eq] at hpart hothers
  have hlist := h.elementPart_eq type ioa body
  have heff : ObjectEffect s (s.withElement type ioa.toNat (elementPart c s.builder ioa.toNat body)) .ok :=
    .added h.config hadd.active hadd.notRaw hadd.count hadd.elementPart_fits
  have hconfig : s.ConfigOk := fun c' hc' => Option.some.inj (h.config.symm.trans hc') ▸ hvalid
  have htail := length_headerTail hvalid hdr
  have hlen := h.len
  obtain ⟨_, _, _, _, _, _, _, hmax⟩ := Config.valid_lengths hvalid
  have hfit := hadd.elementPart_fits
  refine
    { config := h.config, mem := heff.keeps_memOk hconfig h.mem
      bounds := builderOk_added hvalid h.bounds hadd.active hadd.notRaw hadd.count hfit
      active := h.active, sq := h.sq, oa := h.oa, count := ?count, len := ?len, type := fun type' htype' => ?type
      vsq := ?vsq, tail := ?tail, list := ?list, objects := fun i o hi => ?objects }
  case count =>
    have hcount := h.count
    have hlt := hadd.count
    rw [List.length_append, List.length_singleton, ← hcount]
    exact (BitVec.toNat_add ..).trans (Nat.mod_eq_of_lt (by simp; omega))
  case len =>
    rw [hlist, List.length_append, ← Nat.add_assoc, ← hlen]
    exact (BitVec.toNat_ofNat ..).trans (Nat.mod_eq_of_lt (by omega))
  case type =>
    refine htype.trans ?_
    by_cases hcount : s.builder.count = 0#7
    · simpa [State.withElement, Builder.added, hcount] using htype'
    · rw [if_neg hcount]
      exact h.type _ (by simpa [State.withElement, Builder.added, hcount] using htype')
  case vsq =>
    refine (get_withElement h.mem h.two_le_len 1).trans ?_
    rw [if_neg Nat.one_ne_zero, if_pos rfl, h.sq]
    rfl
  case tail =>
    refine (Mem.read_congr fun x hx hx' => ?_).trans h.tail
    exact hothers x hx (.inl (by omega))
  case list =>
    rw [hlist, List.length_append, Mem.read_add, ← hlen, hpart]
    congr 1
    refine (Mem.read_congr fun x hx hx' => ?_).trans h.list
    exact hothers x (by omega) (.inl (by omega))
  case objects =>
    rcases List.getElem?_append .. ▸ hi with hi
    split at hi
    · next hlt =>
      refine (h.objects i o hi).added fun hz => ?_
      rw [h.count_eq_zero.mp hz] at hlt
      exact absurd hlt (Nat.not_lt_zero i)
    · next hge =>
      obtain ⟨hi0, rfl⟩ : i - objs.length = 0 ∧ _ := by simpa [List.getElem?_singleton] using hi
      obtain rfl : i = objs.length := by omega
      exact Listed.of_addable h hadd

end

/-! ### The commands of the build -/

/-- The element that ASDU_GET_ELEMENT shall return for an operand whose values fit. -/
def objectOf? (io : IOOperand) : Option IO :=
  io.body.body?.map fun body => { type := io.type, ioa := io.ioa.setWidth 24, body := body }

section
variable {c : Config} {hdr : MacroHeader} {objs : List IO} {s t : State}

/-- An ASDU_ADD_IO that ends OK adds the object of its operand. -/
theorem Built.addIo {io : IOOperand} (h : Built c hdr objs s) (hvalid : c.valid = true)
    (hexec : exec (.asduAddIo io) s = .next t) (hok : t.status = 0x00#8) :
    ∃ o, objectOf? io = some o ∧ Built c hdr (objs ++ [o]) t := by
  obtain ⟨body, hbody, hadd⟩ := addable_of_addObject h.config hexec hok
  have hioa : (io.ioa.setWidth 24).toNat = io.ioa.toNat := by
    obtain ⟨_, _, _, _, _, hlen, _⟩ := Config.valid_lengths hvalid
    have hlt : io.ioa.toNat < 2 ^ 24 := hadd.ioaFits.trans_le (Nat.pow_le_pow_right Nat.two_pos (by omega))
    rw [BitVec.toNat_setWidth, Nat.mod_eq_of_lt hlt]
  have hobject : objectOf? io = some { type := io.type, ioa := io.ioa.setWidth 24, body := body } := by
    rw [objectOf?, hbody]
    rfl
  have hstored := (congrArg (fun body => addObject io.type io.ioa.toNat body s) hbody).trans
    (addObject_of_addable h.config hvalid hadd)
  obtain rfl : _ = t := Host.Outcome.next.inj (hstored.symm.trans hexec)
  rw [← hioa] at hadd ⊢
  exact ⟨_, hobject, h.add hvalid hadd⟩

/-- ASDU_ADD_IO for each operand and then ASDU_ENCODE, all ending OK, add the objects and publish the length. -/
theorem Built.addAll (hvalid : c.valid = true) (hok : t.status = 0x00#8) : ∀ {ios : List IOOperand} {objs : List IO}
    {s : State}, Built c hdr objs s → runMacro (ios.map .asduAddIo ++ [.asduEncode]) s = .next t →
    ∃ added, ios.map objectOf? = added.map some ∧ Built c hdr (objs ++ added) t ∧ t.asduLen = t.builder.len
  | [], objs, s, h, hrun => by
    obtain ⟨u, hexec, hstatus, hrun⟩ := runMacro_cons_ok hrun hok
    cases hrun
    obtain rfl := execAsduEncode_ok h.config hexec hstatus
    refine ⟨[], rfl, ?_, rfl⟩
    rw [List.append_nil]
    exact { h with mem := State.memOk_iff.mpr (State.memOk_iff.mp h.mem) }
  | io :: ios, objs, s, h, hrun => by
    obtain ⟨u, hexec, hstatus, hrun⟩ := runMacro_cons_ok hrun hok
    obtain ⟨o, hobject, hu⟩ := h.addIo hvalid hexec hstatus
    obtain ⟨added, hadded, ht, hlen⟩ := Built.addAll hvalid hok hu hrun
    refine ⟨o :: added, ?_, ?_, hlen⟩
    · rw [List.map_cons, List.map_cons, hobject, hadded]
    · rwa [List.append_cons]

/-- ASDU_BEGIN, ASDU_ADD_IO for each operand and ASDU_ENCODE, all ending OK, leave the header and the objects. -/
theorem built_of_macroBuild {ios : List IOOperand} (hc : s.config = some c) (hvalid : c.valid = true) (hmem : s.MemOk)
    (hrun : runMacro (macroBuild hdr ios) s = .next t) (hok : t.status = 0x00#8) :
    ∃ objs, ios.map objectOf? = objs.map some ∧ Built c hdr objs t ∧ t.asduLen = t.builder.len ∧
      hdr.ca.toNat < 2 ^ (8 * c.caLen) := by
  obtain ⟨u, hexec, hstatus, hrun⟩ := runMacro_cons_ok hrun hok
  obtain ⟨hca, rfl⟩ := execAsduBegin_ok hc hvalid hexec hstatus
  obtain ⟨objs, hobjs, hbuilt, hlen⟩ := Built.addAll hvalid hok (built_begun hc hvalid hmem) hrun
  exact ⟨objs, hobjs, hbuilt, hlen, hca⟩

end

end Sys2Proof.Machine
end

section
/-! ## Round trip (44_asdu_codec.md R328): what a view of the octets delivers -/

namespace Sys2Proof.Machine

/-! ### Bodies and sizes -/

/-- A body that fits a type is of the standard type, or raw octets of the size that PRIVATE_TYPES gives. -/
theorem bodyFits_elim {c : Config} {type : Byte} {body : Body} (h : bodyFits c type body = true) :
    (∃ std, TypeId.ofByte? type = some std ∧ body.typeId? = some std ∧ body.SegFits) ∨
    (∃ p octets, TypeId.ofByte? type = none ∧ privateIn c.privateTypes type = some p ∧ body = .raw octets ∧
      octets.length = p.size.toNat) := by
  cases body with
  | raw octets =>
    simp only [bodyFits] at h
    split at h
    · next p hstd hp => exact .inr ⟨p, octets, hstd, hp, rfl, of_decide_eq_true h⟩
    · cases h
  | fSgNa1 nof nos seg =>
    simp only [bodyFits, Bool.and_eq_true, decide_eq_true_eq] at h
    obtain ⟨rfl, hseg⟩ := h
    exact .inl ⟨.fSgNa1, rfl, rfl, Body.segFits_segment hseg⟩
  | _ => exact .inl ⟨_, (of_decide_eq_true h).symm, rfl, fun _ _ _ heq => nomatch heq⟩

theorem decOf_enc {c : Config} {type : Byte} {body : Body} (h : bodyFits c type body = true) :
    decOf type body.enc = body := by
  rcases bodyFits_elim h with ⟨std, hstd, htype, hseg⟩ | ⟨p, octets, hstd, _, rfl, _⟩
  · rw [decOf, hstd]
    exact (Body.payloadSize_enc htype hseg []).2
  · simp only [decOf, hstd, Body.enc]

/-- A body is known by its type and its octets. -/
theorem body_eq_of_enc_eq {c : Config} {type : Byte} {body body' : Body} (h : bodyFits c type body = true)
    (h' : bodyFits c type body' = true) (henc : body.enc = body'.enc) : body = body' := by
  rw [← decOf_enc h, henc, decOf_enc h']

theorem length_enc_of_fixed {c : Config} {type size : Byte} {body : Body} (h : bodyFits c type body = true)
    (hpsize : psizeOf? c type = some (.fixed size)) : body.enc.length = size.toNat := by
  rcases bodyFits_elim h with ⟨std, hstd, htype, _⟩ | ⟨p, octets, hstd, hp, rfl, hlen⟩
  · simp only [psizeOf?, hstd, Option.some.injEq, TypeId.psize_eq_fixed] at hpsize
    rw [Body.length_enc htype hpsize.1, hpsize.2]
  · simp only [psizeOf?, hstd, hp, Option.map_some, Option.some.injEq, PSize.fixed.injEq] at hpsize
    rw [Body.enc, hlen, hpsize]

/-- Type 125 is the only type without a fixed size. -/
theorem ofByte?_of_variable {c : Config} {type : Byte} (h : psizeOf? c type = some .variable) :
    TypeId.ofByte? type = some .fSgNa1 := by
  cases hstd : TypeId.ofByte? type with
  | none => simp [psizeOf?, hstd] at h
  | some std =>
    simp only [psizeOf?, hstd, Option.some.injEq] at h
    cases std <;> first | rfl | cases h

theorem segmentOctets_object {c : Config} {o : IO} (hfits : bodyFits c o.type o.body = true)
    (hpsize : psizeOf? c o.type = some .variable) : SegmentOctets c (objectOctets c o) := by
  rcases bodyFits_elim hfits with ⟨std, hstd, htype, hseg⟩ | ⟨_, _, hstd, _⟩
  · obtain rfl := Option.some.inj (hstd.symm.trans (ofByte?_of_variable hpsize))
    have hsize := (Body.payloadSize_enc htype hseg []).1
    rw [List.append_nil, payloadSize, if_pos rfl] at hsize
    have hoctet : octet (objectOctets c o) (c.ioaLen + 3) = octet o.body.enc 3 := by
      have h := octet_append_right (leOctets c.ioaLen o.ioa.toNat) o.body.enc 3
      rwa [leOctets_length] at h
    rw [SegmentOctets, hoctet, objectOctets, List.length_append, leOctets_length]
    omega
  · cases hstd.symm.trans (ofByte?_of_variable hpsize)

theorem length_flatten_of_forall {n : Nat} : ∀ {els : List (List Byte)}, (∀ e, e ∈ els → e.length = n) →
    els.flatten.length = els.length * n
  | [], _ => (Nat.zero_mul n).symm
  | e :: els, h => by
    rw [List.flatten_cons, List.length_append, h e List.mem_cons_self,
      length_flatten_of_forall fun x hx => h x (List.mem_cons_of_mem _ hx), List.length_cons, Nat.succ_mul, Nat.add_comm]

/-- The octets of a list of objects of a fixed size. -/
theorem length_listOctets {c : Config} {sq : Bool} {objs : List IO} {n : Nat} (hne : objs ≠ [])
    (h : ∀ o, o ∈ objs → o.body.enc.length = n) :
    (listOctets c sq objs).length =
      if sq = true then c.ioaLen + objs.length * n else objs.length * (c.ioaLen + n) := by
  cases sq with
  | true =>
    have hbodies := length_flatten_of_forall (els := objs.map fun o => o.body.enc) (n := n) (by simpa using h)
    obtain ⟨o, rest, rfl⟩ := List.exists_cons_of_ne_nil hne
    rw [listOctets, if_pos rfl, if_pos rfl, List.length_append, hbodies, List.length_map]
    simp
  | false =>
    have hobjects := length_flatten_of_forall (els := objs.map (objectOctets c)) (n := c.ioaLen + n)
      (by simpa [objectOctets] using h)
    simpa [listOctets] using hobjects

/-! ### The parse of what was built -/

theorem vsq_vsqOctet : ∀ (sq : Bool) (n : BitVec 7), vsqSq (vsqOctet sq n) = sq ∧ vsqCount (vsqOctet sq n) = n := by
  decide

theorem cause_causeOctet : ∀ (t pn : Bool) (cause : BitVec 6),
    causeT (causeOctet t pn cause) = t ∧ causePn (causeOctet t pn cause) = pn ∧
      causeCause (causeOctet t pn cause) = cause := by
  decide

/-- The header that the builder's octets stand for. -/
def headerFor (c : Config) (hdr : MacroHeader) (type : Byte) (count : BitVec 7) : Header :=
  { type := type, sq := hdr.sq, count := count, t := hdr.t, pn := hdr.pn, cot := hdr.cot.setWidth 6
    oa := if c.cotLen = 2 then hdr.oa else 0#8, ca := hdr.ca }

theorem parseHeader_headerTail {c : Config} {hdr : MacroHeader} (hvalid : c.valid = true)
    (hca : hdr.ca.toNat < 2 ^ (8 * c.caLen)) (type : Byte) (count : BitVec 7) (rest : List Byte) :
    parseHeader c (type :: vsqOctet hdr.sq count :: (headerTail c hdr ++ rest)) = headerFor c hdr type count := by
  obtain ⟨hlo, hhi, _⟩ := Config.valid_lengths hvalid
  have hfrom : BitVec.ofNat 16 (fromLE (leOctets c.caLen hdr.ca.toNat)) = hdr.ca := by
    rw [fromLE_leOctets_of_lt (by rwa [Nat.pow_mul] at hca), BitVec.ofNat_toNat, BitVec.setWidth_eq]
  obtain ⟨hsq, hcount⟩ := vsq_vsqOctet hdr.sq count
  obtain ⟨ht, hpn, hcause⟩ := cause_causeOctet hdr.t hdr.pn (hdr.cot.setWidth 6)
  obtain h | h : c.cotLen = 1 ∨ c.cotLen = 2 := by omega
  all_goals simp [parseHeader, headerFor, headerTail, octet, slice, h, hsq, hcount, ht, hpn, hcause, hfrom]

section
variable {c : Config} {hdr : MacroHeader} {objs : List IO} {s : State}

theorem Built.read_abuf (h : Built c hdr objs s) (hvalid : c.valid = true) {type : Byte}
    (htype : s.builder.type = some type) :
    Mem.read s.abuf 0 s.builder.len.toNat =
      type :: vsqOctet hdr.sq s.builder.count :: (headerTail c hdr ++ listOctets c hdr.sq objs) := by
  have htail := length_headerTail hvalid hdr
  have hlist := h.list
  have hfirst : Mem.read s.abuf 0 2 = [type, vsqOctet hdr.sq s.builder.count] := by
    rw [← h.type _ htype, ← h.vsq]
    rfl
  rw [h.len, ← htail, Mem.read_add, Mem.read_add, hfirst, Nat.zero_add, h.tail, htail, Nat.zero_add, hlist]
  rfl

theorem Built.listed {i : Nat} {o : IO} (h : Built c hdr objs s) (hi : objs[i]? = some o) {type : Byte}
    (htype : s.builder.type = some type) : o.type = type ∧ bodyFits c type o.body = true := by
  have ho := h.objects i o hi
  obtain rfl : o.type = type := Option.some.inj (ho.type.symm.trans htype)
  exact ⟨rfl, ho.fits⟩

/-- The octets that an ASDU that was built needs are all its octets. -/
theorem Built.needOf_eq (h : Built c hdr objs s) (hvalid : c.valid = true) (hne : objs ≠ []) {type : Byte}
    (htype : s.builder.type = some type) {psize : PSize} (hpsize : psizeOf? c type = some psize) :
    needOf c (headerFor c hdr type s.builder.count) psize
      (type :: vsqOctet hdr.sq s.builder.count :: (headerTail c hdr ++ listOctets c hdr.sq objs)) =
      .ok s.builder.len.toNat := by
  have htail := length_headerTail hvalid hdr
  have hcount : (headerFor c hdr type s.builder.count).count.toNat = objs.length := h.count
  have hmem {o : IO} (ho : o ∈ objs) : o.type = type ∧ bodyFits c type o.body = true := by
    obtain ⟨i, hi⟩ := List.getElem?_of_mem ho
    exact h.listed hi htype
  match psize, hpsize with
  | .fixed size, hpsize =>
    have hlist := length_listOctets (c := c) (sq := hdr.sq) hne fun o ho => length_enc_of_fixed (hmem ho).2 hpsize
    have hneed : fixedNeed c (headerFor c hdr type s.builder.count) size = s.builder.len.toNat := by
      rw [fixedNeed, hcount, h.len, hlist, if_pos (List.length_pos_iff.mpr hne)]
      exact (apply_ite (c.hdrLen + ·) _ _ _).symm
    rw [needOf_fixed, hneed, if_pos]
    rw [h.len, List.length_cons, List.length_cons, List.length_append]
    omega
  | .variable, hpsize =>
    have hsq : hdr.sq = false := by
      obtain ⟨o, ho⟩ := List.exists_mem_of_ne_nil objs hne
      obtain ⟨i, hi⟩ := List.getElem?_of_mem ho
      by_contra hsq
      have hseq := ((h.objects i o hi).seq (h.sq.trans (Bool.not_eq_false _ ▸ hsq))).2
      rw [(hmem ho).1, seqOk, ofByte?_of_variable hpsize] at hseq
      cases hseq
    have hwhole : ∀ e, e ∈ objs.map (objectOctets c) → SegmentOctets c e := by
      simp only [List.mem_map]
      rintro _ ⟨o, ho, rfl⟩
      obtain ⟨rfl, hfits⟩ := hmem ho
      exact segmentOctets_object hfits hpsize
    have hwalk := walkSegments_elements (rest := []) 0 (type :: vsqOctet hdr.sq s.builder.count :: headerTail c hdr)
      hwhole
    have hlen := h.len
    simp only [listOctets, hsq, Bool.false_eq_true, if_false] at hlen hwalk ⊢
    rw [needOf_variable, if_neg (by simp [headerFor, hsq]), hcount]
    simp only [List.append_nil, Nat.add_zero, List.length_map, List.length_append, List.length_cons,
      List.cons_append] at hwalk
    rw [show c.hdrLen = (headerTail c hdr).length + 1 + 1 by omega, hwalk, hlen]
    simp only [walkSegments, Except.ok.injEq]
    omega

theorem Built.parse (h : Built c hdr objs s) (hvalid : c.valid = true) (hca : hdr.ca.toNat < 2 ^ (8 * c.caLen))
    (hne : objs ≠ []) {type : Byte} (htype : s.builder.type = some type) {psize : PSize}
    (hpsize : psizeOf? c type = some psize) :
    parseAsdu c (Mem.read s.abuf 0 s.builder.len.toNat) =
      .good (headerFor c hdr type s.builder.count) psize s.builder.len.toNat := by
  have hread := h.read_abuf hvalid htype
  have hlen := Mem.length_read s.abuf 0 s.builder.len.toNat
  have hheader := parseHeader_headerTail hvalid hca type s.builder.count (listOctets c hdr.sq objs)
  have hneed := h.needOf_eq hvalid hne htype hpsize
  have hhdr : c.hdrLen ≤ s.builder.len.toNat := by rw [h.len]; omega
  rw [← hread] at hheader hneed
  have hfirst : octet (Mem.read s.abuf 0 s.builder.len.toNat) 0 = type := by rw [hread]; rfl
  rw [← hheader] at hneed ⊢
  exact (parseAsdu_ok (hlen.symm ▸ hhdr) (hfirst.symm ▸ hpsize) hneed).trans (if_neg fun hn => hn.2 hlen.symm)

end

/-! ### Elements of a view -/

/-- A valid known view of a list of objects that stands in RXBUF behind its header. -/
structure Viewed (c : Config) (b : Builder) (objs : List IO) (v : State) : Prop where
  config  : v.config = some c
  valid   : v.view.valid = true
  known   : v.view.known = true
  type    : b.type = some v.view.hdr.type
  sq      : v.view.hdr.sq = b.sq
  count   : v.view.hdr.count.toNat = objs.length
  fit     : v.view.off.toNat + c.hdrLen + (listOctets c b.sq objs).length ≤ 261
  list    : Mem.read v.rxbuf (v.view.off.toNat + c.hdrLen) (listOctets c b.sq objs).length = listOctets c b.sq objs
  objects : ∀ i o, objs[i]? = some o → Listed c b i o

theorem exists_split_of_getElem? {α : Type} {l : List α} {i : Nat} {x : α} (h : l[i]? = some x) :
    ∃ pre post, l = pre ++ x :: post ∧ pre.length = i := by
  obtain ⟨hlt, rfl⟩ := List.getElem?_eq_some_iff.mp h
  refine ⟨l.take i, l.drop (i + 1), ?_, List.length_take_of_le hlt.le⟩
  rw [← List.drop_eq_getElem_cons hlt, List.take_append_drop]

section
variable {c : Config} {b : Builder} {objs : List IO} {v : State} {i : Nat} {o : IO}

theorem Viewed.length_enc (h : Viewed c b objs v) (ho : o ∈ objs) {size : Byte}
    (hpsize : psizeOf? c v.view.hdr.type = some (.fixed size)) : o.body.enc.length = size.toNat := by
  obtain ⟨i, hi⟩ := List.getElem?_of_mem ho
  have hlisted := h.objects i o hi
  have htype : o.type = v.view.hdr.type := Option.some.inj (hlisted.type.symm.trans h.type)
  exact length_enc_of_fixed (htype ▸ hlisted.fits) hpsize

/-- In a sequence the one address stands before the bodies (30_encoding.md R108). -/
theorem Viewed.read_sequence (h : Viewed c b objs v) (hi : objs[i]? = some o) {size : Byte}
    (hpsize : psizeOf? c v.view.hdr.type = some (.fixed size)) (hsq : b.sq = true) :
    let base := v.view.off.toNat + c.hdrLen
    base + c.ioaLen + i * size.toNat + size.toNat ≤ 261 ∧
      Mem.read v.rxbuf (base + c.ioaLen + i * size.toNat) size.toNat = o.body.enc ∧
      Mem.read v.rxbuf base c.ioaLen = leOctets c.ioaLen b.firstIoa.toNat := by
  have ho := h.length_enc (List.mem_of_getElem? hi) hpsize
  have hlist := h.list
  have hfit := h.fit
  obtain ⟨pre, post, rfl, rfl⟩ := exists_split_of_getElem? hi
  have hfirst : (((pre ++ o :: post).take 1).map fun x => leOctets c.ioaLen x.ioa.toNat).flatten =
      leOctets c.ioaLen b.firstIoa.toNat := by
    obtain ⟨x, rest, hx⟩ := List.exists_cons_of_ne_nil (List.append_ne_nil_of_right_ne_nil pre (List.cons_ne_nil o post))
    have hseq := ((h.objects 0 x (by rw [hx]; rfl)).seq hsq).1
    rw [hx]
    simp [hseq]
  have hpre := length_flatten_of_forall (els := pre.map fun x => x.body.enc) (n := size.toNat)
    (by simpa using fun x hx => h.length_enc (List.mem_append_left _ hx) hpsize)
  rw [List.length_map] at hpre
  simp only [listOctets, hsq, if_true, hfirst, List.map_append, List.map_cons, List.flatten_append,
    List.flatten_cons] at hlist hfit
  refine ⟨?fit, ?body, ?address⟩
  case fit =>
    simp only [List.length_append, leOctets_length, hpre, ho] at hfit
    omega
  case body =>
    simp only [← List.append_assoc] at hlist
    have hread := Mem.read_middle hlist
    rwa [List.length_append, leOctets_length, hpre, ho, ← Nat.add_assoc] at hread
  case address =>
    have hread := Mem.read_middle (xs := []) hlist
    rwa [leOctets_length] at hread

/-- Out of a sequence each body stands behind its address (30_encoding.md R108). -/
theorem Viewed.read_addressed (h : Viewed c b objs v) (hi : objs[i]? = some o) {size : Byte}
    (hpsize : psizeOf? c v.view.hdr.type = some (.fixed size)) (hsq : b.sq = false) :
    let at_ := v.view.off.toNat + c.hdrLen + i * (c.ioaLen + size.toNat)
    at_ + c.ioaLen + size.toNat ≤ 261 ∧ Mem.read v.rxbuf (at_ + c.ioaLen) size.toNat = o.body.enc ∧
      Mem.read v.rxbuf at_ c.ioaLen = leOctets c.ioaLen o.ioa.toNat := by
  have ho := h.length_enc (List.mem_of_getElem? hi) hpsize
  have hlist := h.list
  have hfit := h.fit
  obtain ⟨pre, post, rfl, rfl⟩ := exists_split_of_getElem? hi
  have hpre := length_flatten_of_forall (els := pre.map (objectOctets c)) (n := c.ioaLen + size.toNat)
    (by simpa [objectOctets] using fun x hx => h.length_enc (List.mem_append_left _ hx) hpsize)
  rw [List.length_map] at hpre
  simp only [listOctets, hsq, Bool.false_eq_true, if_false, List.map_append, List.map_cons, List.flatten_append,
    List.flatten_cons, ← List.append_assoc] at hlist hfit
  have hread := Mem.read_middle hlist
  simp only [List.length_append, hpre, objectOctets, leOctets_length, ho] at hfit hread
  rw [Mem.read_add] at hread
  obtain ⟨haddress, hbody⟩ := List.append_inj hread (by simp)
  exact ⟨by omega, hbody, haddress⟩

/-- The element that an answer of ASDU_GET_ELEMENT delivers, whether or not it warns of an address. -/
theorem exists_next_of_ite {p : Prop} [Decidable p] {out : Out} {t : State} {code : Byte} {info : BitVec 16}
    (h : out = if p then refusal t code info else completes t) : ∃ w, out = .next w ∧ w.elem = t.elem := by
  split at h
  · exact ⟨_, h, rfl⟩
  · exact ⟨_, h, rfl⟩

theorem Viewed.getElement_fixed (h : Viewed c b objs v) (hvalid : c.valid = true) (hi : objs[i]? = some o) {size : Byte}
    (hpsize : psizeOf? c v.view.hdr.type = some (.fixed size)) :
    ∃ w, exec (.asduGetElement (BitVec.ofNat 8 i)) v = .next w ∧ w.elem.valid = true ∧ w.elem.io = o := by
  have hlisted := h.objects i o hi
  have htype : o.type = v.view.hdr.type := Option.some.inj (hlisted.type.symm.trans h.type)
  have hlt : i < v.view.hdr.count.toNat := h.count ▸ (List.getElem?_eq_some_iff.mp hi).1
  have hidx : (BitVec.ofNat 8 i).toNat = i := (BitVec.toNat_ofNat ..).trans (Nat.mod_eq_of_lt (by omega))
  have helement := asduGetElementFixedSize c v (BitVec.ofNat 8 i) size h.config hvalid h.valid h.known hpsize
    (hidx.symm ▸ hlt)
  have delivered {ioa : Nat} {body : Body} (hfits : bodyFits c v.view.hdr.type body = true)
      (henc : body.enc = o.body.enc) (hioa : ioa = o.ioa.toNat) :
      ({ type := v.view.hdr.type, ioa := BitVec.ofNat 24 ioa, body := body } : IO) = o := by
    rw [← htype, hioa, BitVec.ofNat_toNat, BitVec.setWidth_eq, body_eq_of_enc_eq (htype ▸ hfits) hlisted.fits henc]
  have hfrom {ioa : Nat} (hioa : ioa < 2 ^ (8 * c.ioaLen)) : fromLE (leOctets c.ioaLen ioa) = ioa :=
    fromLE_leOctets_of_lt (by rwa [Nat.pow_mul] at hioa)
  cases hsq : b.sq with
  | true =>
    obtain ⟨hfit, hbody, haddress⟩ := h.read_sequence hi hpsize hsq
    obtain ⟨hseq, -⟩ := hlisted.seq hsq
    have hioa : (fromLE (leOctets c.ioaLen b.firstIoa.toNat) + i) % 2 ^ (8 * c.ioaLen) = o.ioa.toNat := by
      have hlt := hlisted.ioa
      rw [hfrom (by omega), ← hseq, Nat.mod_eq_of_lt hlt]
    simp only [hidx, h.sq, hsq, if_true, hbody, haddress] at helement
    obtain ⟨body, hfits, henc, hexec⟩ := helement hfit
    obtain ⟨w, hw, helem⟩ := exists_next_of_ite hexec
    exact ⟨w, hw, by rw [helem], by rw [helem]; exact delivered hfits henc hioa⟩
  | false =>
    obtain ⟨hfit, hbody, haddress⟩ := h.read_addressed hi hpsize hsq
    simp only [hidx, h.sq, hsq, Bool.false_eq_true, if_false, hbody, haddress] at helement
    obtain ⟨body, hfits, henc, hexec⟩ := helement hfit
    obtain ⟨w, hw, helem⟩ := exists_next_of_ite hexec
    exact ⟨w, hw, by rw [helem], by rw [helem]; exact delivered hfits henc (hfrom hlisted.ioa)⟩

theorem Viewed.getElement_segment (h : Viewed c b objs v) (hvalid : c.valid = true) (hi : objs[i]? = some o)
    (hpsize : psizeOf? c v.view.hdr.type = some .variable) :
    ∃ w, exec (.asduGetElement (BitVec.ofNat 8 i)) v = .next w ∧ w.elem.valid = true ∧ w.elem.io = o := by
  have hlisted := h.objects i o hi
  have htype {j : Nat} {x : IO} (hj : objs[j]? = some x) : x.type = v.view.hdr.type :=
    Option.some.inj ((h.objects j x hj).type.symm.trans h.type)
  have h125 : v.view.hdr.type = 125#8 := (TypeId.code_of_ofByte? (ofByte?_of_variable hpsize)).symm
  have hwhole {j : Nat} {x : IO} (hj : objs[j]? = some x) : SegmentOctets c (objectOctets c x) :=
    segmentOctets_object (h.objects j x hj).fits (htype hj ▸ hpsize)
  have hsq : b.sq = false := by
    by_contra hsq
    have hseq := (hlisted.seq (Bool.not_eq_false _ ▸ hsq)).2
    rw [htype hi, seqOk, ofByte?_of_variable hpsize] at hseq
    cases hseq
  have hlt : i < v.view.hdr.count.toNat := h.count ▸ (List.getElem?_eq_some_iff.mp hi).1
  have hidx : (BitVec.ofNat 8 i).toNat = i := (BitVec.toNat_ofNat ..).trans (Nat.mod_eq_of_lt (by omega))
  have hlist := h.list
  have hfit := h.fit
  obtain ⟨pre, post, hobjs, hpre⟩ := exists_split_of_getElem? hi
  have hels : ∀ e, e ∈ pre.map (objectOctets c) → SegmentOctets c e := by
    simp only [List.mem_map]
    rintro _ ⟨x, hx, rfl⟩
    obtain ⟨j, hj⟩ := List.getElem?_of_mem (hobjs ▸ List.mem_append_left _ hx)
    exact hwhole hj
  simp only [listOctets, hsq, Bool.false_eq_true, if_false, hobjs, List.map_append, List.map_cons, List.flatten_append,
    List.flatten_cons, ← List.append_assoc] at hlist hfit
  rw [List.length_append] at hfit
  have hread := Mem.read_middle (xs := []) hlist
  obtain ⟨body, hfits, henc, hexec⟩ := asduGetElementSegment c v (BitVec.ofNat 8 i) _ _ h.config hvalid h.valid h.known
    h125 (hidx.symm ▸ hlt) (by rw [List.length_map, hpre, hidx]) hels (hwhole hi) (by omega) hread
  have haddress : (objectOctets c o).take c.ioaLen = leOctets c.ioaLen o.ioa.toNat :=
    List.take_left' (leOctets_length _ _)
  have hpayload : (objectOctets c o).drop c.ioaLen = o.body.enc := List.drop_left' (leOctets_length _ _)
  rw [hpayload] at henc
  refine ⟨_, hexec, rfl, ?_⟩
  have hbody := body_eq_of_enc_eq (htype hi ▸ h125 ▸ hfits) hlisted.fits henc
  have hioa := hlisted.ioa
  rw [Nat.pow_mul] at hioa
  rw [haddress, fromLE_leOctets_of_lt hioa, BitVec.ofNat_toNat, BitVec.setWidth_eq, hbody, ← h125, ← htype hi]

theorem Viewed.getElement (h : Viewed c b objs v) (hvalid : c.valid = true) (hi : objs[i]? = some o) :
    ∃ w, exec (.asduGetElement (BitVec.ofNat 8 i)) v = .next w ∧ w.elem.valid = true ∧ w.elem.io = o := by
  have hlisted := h.objects i o hi
  have htype : o.type = v.view.hdr.type := Option.some.inj (hlisted.type.symm.trans h.type)
  obtain ⟨psize, hpsize⟩ := Option.isSome_iff_exists.mp hlisted.known
  rw [htype] at hpsize
  match psize, hpsize with
  | .fixed size, hpsize => exact h.getElement_fixed hvalid hi hpsize
  | .variable, hpsize => exact h.getElement_segment hvalid hi hpsize

end

/-! ### The round trip -/

/-- A view of the builder's octets, copied to RXBUF at an offset, is a view of its list of objects. -/
theorem Built.viewed {c : Config} {hdr : MacroHeader} {objs : List IO} {s v : State} {o : BitVec 16} {type : Byte}
    {psize : PSize} (h : Built c hdr objs s) (hvalid : c.valid = true) (htype : s.builder.type = some type)
    (hfit : o.toNat + s.builder.len.toNat ≤ 261)
    (hread : Mem.read v.rxbuf o.toNat s.builder.len.toNat = Mem.read s.abuf 0 s.builder.len.toNat)
    (hc : v.config = some c)
    (hview : v.view = { valid := true, known := true, off := o, len := BitVec.ofNat 16 s.builder.len.toNat
                        psize := psize, hdr := headerFor c hdr type s.builder.count }) :
    Viewed c s.builder objs v := by
  have htail := length_headerTail hvalid hdr
  have hlen := h.len
  rw [← h.sq] at hlen
  have hhead : (type :: vsqOctet hdr.sq s.builder.count :: headerTail c hdr).length = c.hdrLen := by
    rw [List.length_cons, List.length_cons]
    omega
  refine
    { config := hc, valid := by rw [hview], known := by rw [hview], type := by rw [hview]; exact htype
      sq := by rw [hview]; exact h.sq.symm, count := by rw [hview]; exact h.count
      fit := by rw [hview, Nat.add_assoc, ← hlen]; exact hfit, list := ?_, objects := h.objects }
  rw [h.read_abuf hvalid htype, hlen, ← hhead, ← List.length_append, h.sq] at hread
  rw [hview, ← hhead, h.sq]
  exact Mem.read_middle (zs := []) (by simpa only [List.append_nil, List.cons_append] using hread)

/-- Settles O54: what the builder holds is what the view delivers. -/
theorem roundTrip : Obligations.RoundTrip := by
  intro c s t u hdr ios o hc hvalid hmem hne hrun hok hfit hcopy
  obtain ⟨objs, hobjs, hbuilt, hlen, hca⟩ := built_of_macroBuild hc hvalid hmem hrun hok
  have hcount : objs.length = ios.length := by simpa using (congrArg List.length hobjs).symm
  have hne' : objs ≠ [] := fun h => hne (List.length_eq_zero_iff.mp (by rw [← hcount, h]; rfl))
  have hfirst := hbuilt.objects 0 _ (List.getElem?_eq_getElem (List.length_pos_iff.mpr hne'))
  obtain ⟨type, htype⟩ : ∃ type, t.builder.type = some type := ⟨_, hfirst.type⟩
  obtain ⟨psize, hpsize⟩ : ∃ psize, psizeOf? c type = some psize := by
    rw [← Option.some.inj (hfirst.type.symm.trans htype)]
    exact Option.isSome_iff_exists.mp hfirst.known
  rw [hlen] at hfit hcopy ⊢
  have hlong : t.builder.len.toNat ≠ 0 := by
    have := hbuilt.two_le_len
    omega
  obtain rfl : u = t.written .rxbuf o.toNat (Mem.read t.abuf 0 t.builder.len.toNat) := by
    rcases State.hostWrite_next hcopy with ⟨hnil, _⟩ | ⟨_, _, hu⟩
    · exact absurd (by simpa using congrArg List.length hnil) hlong
    · exact (Host.Outcome.next.inj hu).symm
  have hread : Mem.read (Mem.write t.rxbuf o.toNat (Mem.read t.abuf 0 t.builder.len.toNat)) o.toNat
      t.builder.len.toNat = Mem.read t.abuf 0 t.builder.len.toNat := by
    have h := Mem.read_write (m := t.rxbuf) o.toNat (Mem.read t.abuf 0 t.builder.len.toNat) (hbuilt.mem .rxbuf).1
    rwa [Mem.length_read] at h
  have hwidth : (t.builder.len.setWidth 16).toNat = t.builder.len.toNat := by
    rw [BitVec.toNat_setWidth, Nat.mod_eq_of_lt (by omega)]
  have hparse := hbuilt.parse hvalid hca hne' htype hpsize
  rw [← hread] at hparse
  have hdecode := execAsduDecode_of_parse (off := o) (len := t.builder.len.setWidth 16)
    (parse := .good (headerFor c hdr type t.builder.count) psize t.builder.len.toNat)
    (s := t.written .rxbuf o.toNat (Mem.read t.abuf 0 t.builder.len.toNat)) hbuilt.config (by rw [hwidth]; exact hfit)
    (by rw [hwidth]; exact hparse)
  refine ⟨_, hdecode, rfl, rfl, htype.symm, rfl, rfl, rfl, rfl, hbuilt.oa.symm, rfl, hbuilt.count.trans hcount, ?_⟩
  intro i io body hi hbody
  have hobject : objs[i]? = some { type := io.type, ioa := io.ioa.setWidth 24, body := body } := by
    have hio : (ios.map objectOf?)[i]? = some (objectOf? io) := by rw [List.getElem?_map, hi]; rfl
    rw [hobjs, List.getElem?_map, Option.map_eq_some_iff] at hio
    obtain ⟨x, hx, hsome⟩ := hio
    rw [objectOf?, hbody] at hsome
    rw [hx, Option.some.inj hsome]
  exact Viewed.getElement (hbuilt.viewed hvalid htype hfit hread hbuilt.config rfl) hvalid hobject

end Sys2Proof.Machine
end

section
/-! ## FT1.2 frames: octets, checksum and parse (45_ft12_link.md R360, 47_checksum.md R470) -/

namespace Sys2Proof.Machine

/-! ### Octets inside a frame -/

section
variable {os pre body post : List Byte} {p : Nat} (hos : os = pre ++ body ++ post) (hpre : pre.length = p)
include hos hpre

theorem octet_middle {i k : Nat} (hk : k = p + i) (h : i < body.length) : octet os k = octet body i := by
  rw [hos, hk, ← hpre, List.append_assoc, octet_append_right, octet_append_left h]

theorem octet_trailer {i k : Nat} (hk : k = p + body.length + i) : octet os k = octet post i := by
  rw [hos, hk, ← hpre, ← List.length_append, octet_append_right]

theorem slice_middle {off k n : Nat} (hk : k = p + off) (h : off + n ≤ body.length) :
    slice os k n = slice body off n := by
  rw [slice, slice, hos, hk, ← hpre, List.append_assoc, ← List.drop_drop, List.drop_left,
    List.drop_append_of_le_length (by omega), List.take_append_of_le_length (by rw [List.length_drop]; omega)]

end

theorem slice_all (os : List Byte) : slice os 0 os.length = os := List.take_length

theorem length_slice {os : List Byte} {off n : Nat} (h : off + n ≤ os.length) : (slice os off n).length = n := by
  rw [slice, List.length_take, List.length_drop]
  omega

/-! ### The checksum -/

theorem sum8_eq_sum (os : List Byte) : sum8 os = os.sum := List.sum_eq_foldl.symm

/-- Another value of one octet moves the sum by the difference of the two. -/
theorem sum8_set {os : List Byte} {i : Nat} (h : i < os.length) (b : Byte) :
    sum8 (os.set i b) = sum8 os + (-octet os i + b) := by
  rw [sum8_eq_sum, sum8_eq_sum, List.sum_set', dif_pos h, octet, List.getD_eq_getElem os 0#8 h]

theorem sum8_set_ne {os : List Byte} {i : Nat} {b : Byte} (h : i < os.length) (hb : b ≠ octet os i) :
    sum8 (os.set i b) ≠ sum8 os := by
  rw [sum8_set h, ne_eq, add_eq_left, neg_add_eq_zero]
  exact hb.symm

/-! ### The parse of a whole frame -/

/-- A frame of the fixed length between its start and end octets: only its checksum decides. -/
theorem parseFrame_fixed {n : Nat} {os body : List Byte} {cs : Byte} (hos : os = [0x10#8] ++ body ++ [cs, 0x16#8])
    (hlen : body.length = 1 + n) :
    parseFrame n os =
      if cs ≠ sum8 body then .checksum (2 + n) else .fixed (octet body 0) (fromLE (slice body 1 n)) := by
  have hstart : parseFrame n os = parseFixed n os := by rw [hos]; rfl
  have hlength : os.length = 4 + n := by
    simp only [hos, List.length_append, List.length_cons, List.length_nil]
    omega
  have hend : octet os (4 + n - 1) = 0x16#8 := octet_trailer (p := 1) (i := 1) hos rfl (by omega)
  have hcs : octet os (2 + n) = cs := octet_trailer (p := 1) (i := 0) hos rfl (by omega)
  have hbody : slice os 1 (1 + n) = body :=
    (slice_middle (p := 1) (off := 0) hos rfl rfl (by omega)).trans (hlen ▸ slice_all body)
  have hctl : octet os 1 = octet body 0 := octet_middle (p := 1) hos rfl rfl (by omega)
  have haddr : slice os 2 n = slice body 1 n := slice_middle (p := 1) hos rfl rfl (by omega)
  rw [hstart, parseFixed, hlength, hend, hcs, hbody, hctl, haddr, if_neg (not_not_intro rfl),
    if_neg (not_not_intro rfl)]

/-- A variable-length frame whose two length octets count its content: only its checksum decides. -/
theorem parseFrame_variable {n : Nat} {l cs : Byte} {os body : List Byte}
    (hos : os = [0x68#8, l, l, 0x68#8] ++ body ++ [cs, 0x16#8]) (hl : l.toNat = body.length)
    (hlen : 1 + n ≤ body.length) :
    parseFrame n os =
      if cs ≠ sum8 body then .checksum (4 + body.length)
      else .variable (octet body 0) (fromLE (slice body 1 n)) (body.length - 1 - n) := by
  have hstart : parseFrame n os = parseVariable n os := by rw [hos]; rfl
  have hlength : os.length = body.length + 6 := by
    simp only [hos, List.length_append, List.length_cons, List.length_nil]
    omega
  have hlen1 : octet os 1 = l := by rw [hos]; rfl
  have hlen2 : octet os 2 = l := by rw [hos]; rfl
  have hstart2 : octet os 3 = 0x68#8 := by rw [hos]; rfl
  have hend : octet os (body.length + 6 - 1) = 0x16#8 := octet_trailer (p := 4) (i := 1) hos rfl (by omega)
  have hcs : octet os (4 + body.length) = cs := octet_trailer (p := 4) (i := 0) hos rfl rfl
  have hbody : slice os 4 body.length = body :=
    (slice_middle (p := 4) (off := 0) hos rfl rfl (by omega)).trans (slice_all body)
  have hctl : octet os 4 = octet body 0 := octet_middle (p := 4) hos rfl rfl (by omega)
  have haddr : slice os 5 n = slice body 1 n := slice_middle (p := 4) hos rfl rfl (by omega)
  rw [hstart, parseVariable, hlength, hlen1, hlen2, hstart2, hl, hend, hcs, hbody, hctl, haddr, if_neg (by omega),
    if_neg (not_not_intro rfl), if_neg (not_not_intro rfl), if_neg (by omega), if_neg (not_not_intro rfl),
    if_neg (not_not_intro rfl)]

@[simp] theorem length_fixedFrame (ctl : Byte) (addr : List Byte) : (fixedFrame ctl addr).length = 4 + addr.length := by
  simp only [fixedFrame, List.length_append, List.length_cons, List.length_nil]
  omega

@[simp] theorem length_variableFrame (ctl : Byte) (addr ud : List Byte) :
    (variableFrame ctl addr ud).length = 1 + addr.length + ud.length + 6 := by
  simp only [variableFrame, List.length_append, List.length_cons, List.length_nil]
  omega

theorem parseFrame_fixedFrame (ctl : Byte) (addr : List Byte) :
    parseFrame addr.length (fixedFrame ctl addr) = .fixed ctl (fromLE addr) := by
  have haddr : slice (ctl :: addr) 1 addr.length = addr := slice_all addr
  have hparse := parseFrame_fixed (os := fixedFrame ctl addr) (body := ctl :: addr) rfl (Nat.add_comm addr.length 1)
  rwa [if_neg (not_not_intro rfl), haddr] at hparse

theorem parseFrame_variableFrame (ctl : Byte) {addr ud : List Byte} (hlen : 1 + addr.length + ud.length ≤ 255) :
    parseFrame addr.length (variableFrame ctl addr ud) = .variable ctl (fromLE addr) ud.length := by
  have hlength : (ctl :: addr ++ ud).length = 1 + addr.length + ud.length := by
    simp only [List.length_append, List.length_cons]
    omega
  have haddr : slice (ctl :: addr ++ ud) 1 addr.length = addr := List.take_left
  have hl : (BitVec.ofNat 8 (1 + addr.length + ud.length)).toNat = (ctl :: addr ++ ud).length := by
    rw [hlength, BitVec.toNat_ofNat, Nat.mod_eq_of_lt (by omega)]
  have hud : (ctl :: addr ++ ud).length - 1 - addr.length = ud.length := by omega
  have hparse := parseFrame_variable (n := addr.length) (os := variableFrame ctl addr ud) (body := ctl :: addr ++ ud)
    rfl hl (by omega)
  rwa [if_neg (not_not_intro rfl), haddr, hud] at hparse

end Sys2Proof.Machine
end

section
/-! ## FT12_DECODE, and the rows that receive a frame (45_ft12_link.md R360, R365, R370 to R396) -/

namespace Sys2Proof.Machine

/-! ### What FT12_DECODE answers (R365) -/

/-- What a parse makes of the registers (45_ft12_link.md R365): F_VALID false with its status, or the F_* registers. -/
def FrameParse.answer (c : Config) (s : State) : FrameParse → Out
  | .framing info => refusal { s with link.valid := false } 0x20#8 (BitVec.ofNat 16 info)
  | .checksum info => refusal { s with link.valid := false } 0x21#8 (BitVec.ofNat 16 info)
  | .single => completes { s with link := linkOf c.linkMode .single 0#8 0 0 0 }
  | .fixed ctl a => completes { s with link := linkOf c.linkMode .fixed ctl a 0 0 }
  | .variable ctl a udLen =>
    completes { s with link := linkOf c.linkMode .variable ctl a (5 + c.linkAddrLen) udLen }

theorem takeFrame_eq_answer (c : Config) (os : List Byte) (s : State) :
    takeFrame c os s = (parseFrame c.linkAddrLen os).answer c s := by
  unfold takeFrame
  split
  case h_1 h => rw [h, FrameParse.answer, State.raise_refuses rfl]; rfl
  case h_2 h => rw [h, FrameParse.answer, State.raise_refuses rfl]; rfl
  case h_3 h => rw [h]; rfl
  case h_4 h => rw [h]; rfl
  case h_5 h => rw [h]; rfl

theorem decodeFrame_eq_answer {c : Config} {s : State} {len : BitVec 16} (hc : s.config = some c)
    (hlen : len.toNat ≤ Buf.rxbuf.size) :
    decodeFrame len s = (parseFrame c.linkAddrLen (Mem.read s.rxbuf 0 len.toNat)).answer c s := by
  rw [decodeFrame, State.configured_some hc, State.check_pos hlen, State.load_inside (by rwa [Nat.zero_add]),
    takeFrame_eq_answer]
  rfl

theorem Config.valid_linkAddrLen {c : Config} (h : c.valid = true) : c.linkAddrLen ≤ 2 := by
  simp only [Config.valid, Bool.and_eq_true, Bool.or_eq_true, decide_eq_true_eq] at h
  omega

theorem linkOf_fixed (mode : LinkMode) (ctl : Byte) (addr : List Byte) :
    linkOf mode .fixed ctl (fromLE addr) 0 0 =
      linkRegisters .fixed ctl addr [] (fclass mode (ctl.extractLsb' 6 1) (ctl.extractLsb' 0 4)) := rfl

theorem linkOf_variable (mode : LinkMode) (ctl : Byte) (addr ud : List Byte) :
    linkOf mode .variable ctl (fromLE addr) (5 + addr.length) ud.length =
      linkRegisters .variable ctl addr ud (fclass mode (ctl.extractLsb' 6 1) (ctl.extractLsb' 0 4)) := rfl

/-- One check of a parse against one `if` of its claim. -/
theorem FrameParse.answer_claim {c : Config} {s : State} {out : Out} {p : Prop} [Decidable p] {failed rest : FrameParse}
    {claim claimRest : Prop} (hout : out = (if p then failed else rest).answer c s)
    (hfail : p → out = failed.answer c s → claim) (hrest : ¬ p → out = rest.answer c s → claimRest) :
    if p then claim else claimRest := by
  split
  · next hp => exact hfail hp (by rw [hout, if_pos hp])
  · next hp => exact hrest hp (by rw [hout, if_neg hp])

/-- The answer to a parse is the one that the claims state, check by check. -/
theorem linkOutcome_of_answer {c : Config} {s : State} {out : Out} {os : List Byte}
    (hout : out = (parseFrame c.linkAddrLen os).answer c s) : LinkOutcome c s out os := by
  cases os with
  | nil => exact hout
  | cons start rest =>
    have hne : ¬ (start :: rest).length = 0 := by simp
    rw [LinkOutcome, if_neg hne]
    refine FrameParse.answer_claim hout (fun _ hout => ?single) fun _ hout =>
      FrameParse.answer_claim hout (fun _ hout => ?fixedLength) fun _ hout =>
      FrameParse.answer_claim hout (fun _ hout => ?variableLength) fun _ hout => hout
    case single =>
      split
      · next hlen => rwa [if_neg hlen] at hout
      · next hlen => rwa [if_pos (not_not.mp hlen)] at hout
    case fixedLength =>
      exact FrameParse.answer_claim hout (fun _ h => h) fun _ hout =>
        FrameParse.answer_claim hout (fun _ h => h) fun _ hout =>
        FrameParse.answer_claim hout (fun _ h => h) fun _ hout => hout
    case variableLength =>
      refine FrameParse.answer_claim hout (fun _ h => h) fun _ hout =>
        FrameParse.answer_claim hout (fun _ h => h) fun _ hout =>
        FrameParse.answer_claim hout (fun _ h => h) fun _ hout =>
        FrameParse.answer_claim hout (fun _ h => h) fun hl hout =>
        FrameParse.answer_claim hout (fun _ h => h) fun hlen hout =>
        FrameParse.answer_claim hout (fun _ h => h) fun _ hout =>
        FrameParse.answer_claim hout (fun _ h => h) fun _ hout => ?_
      rwa [← linkOf_variable, length_slice (by omega), length_slice (by omega)]

/-! ### FT12_DECODE -/

/-- Settles O24: the checks of R365 in order, and the F_* registers of an accepted frame. -/
theorem ft12DecodeCommand : Obligations.Ft12DecodeCommand := by
  intro c s len hc _
  have hout : exec (.ft12Decode len) s = _ := State.configured_some hc
  exact State.check_claim hout rfl rfl Nat.not_lt.symm fun hlen _ =>
    linkOutcome_of_answer (decodeFrame_eq_answer hc hlen)

/-- Settles O29: the sum moves with the octet, and the frame has its checksum still. -/
theorem ft12ChecksumCatchesOneWrongOctet : Obligations.Ft12ChecksumCatchesOneWrongOctet := by
  intro c s len body i b hc _ hlow hhigh hi hb hlen hread
  have hlength : (body.set i b).length = body.length := List.length_set
  have hl : (BitVec.ofNat 8 body.length).toNat = (body.set i b).length := by
    rw [hlength, BitVec.toNat_ofNat, Nat.mod_eq_of_lt (by omega)]
  have hparse := parseFrame_variable (n := c.linkAddrLen) hread hl (by rwa [hlength])
  rw [if_pos (sum8_set_ne hi hb).symm, hlength] at hparse
  have hfit : len.toNat ≤ Buf.rxbuf.size := by
    rw [hlen, Buf.size]
    omega
  exact (decodeFrame_eq_answer hc hfit).trans (by rw [hparse]; rfl)

/-! ### A frame that the host delivers (log entries 2 and 21) -/

theorem receiveFrame_eq_answer {c : Config} {s : State} {frame : List Byte} (hc : s.config = some c) (hne : frame ≠ [])
    (hlen : frame.length ≤ Buf.rxbuf.size) (hmem : s.MemOk) :
    receiveFrame frame s = (parseFrame c.linkAddrLen frame).answer c (s.written .rxbuf 0 frame) := by
  have hwidth : (BitVec.ofNat 16 frame.length).toNat = frame.length := by
    rw [BitVec.toNat_ofNat, Nat.mod_eq_of_lt (hlen.trans_lt (by decide))]
  rw [receiveFrame, State.deliver_eq hne hlen,
    decodeFrame_eq_answer (c := c) (s := s.written .rxbuf 0 frame) hc (by rwa [hwidth]), hwidth,
    (delivered_written frame hmem).read]

theorem exists_delivered_linkOutcome {c : Config} {s : State} {start : Byte} {tail : List Byte} (hc : s.config = some c)
    (hmem : s.MemOk) (hlen : tail.length ≤ 260) :
    ∃ u, Delivered s u (start :: tail) ∧ LinkOutcome c u (receiveFrame (start :: tail) s) (start :: tail) :=
  ⟨_, delivered_written _ hmem,
    linkOutcome_of_answer (receiveFrame_eq_answer hc (List.cons_ne_nil _ _) (Nat.succ_le_succ hlen) hmem)⟩

/-- The reception of a frame that the parse accepts, as the claims say it. -/
theorem exists_tookFrame {c : Config} {s : State} {frame : List Byte} {link : LinkRx} (hc : s.config = some c)
    (hmem : s.MemOk) (hne : frame ≠ []) (hlen : frame.length ≤ Buf.rxbuf.size)
    (hparse : ∀ u : State, (parseFrame c.linkAddrLen frame).answer c u = completes { u with link := link }) :
    ∃ t, receiveFrame frame s = .next t ∧ TookFrame s t frame link s.apci .ok 0#16 := by
  refine ⟨_, (receiveFrame_eq_answer hc hne hlen hmem).trans (hparse _), wrote_of_buf hmem rfl fun b hb => ?_, rfl⟩
  cases b
  case rxbuf => exact absurd rfl hb
  all_goals rfl

section
variable {c : Config} {s : State} {addr ud : List Byte}

theorem receivesFixed_receiveFixed (ctl : Byte) (hc : s.config = some c) (hvalid : c.valid = true) (hmem : s.MemOk)
    (haddr : addr.length = c.linkAddrLen) :
    ReceivesFixed s (receiveFixed ctl addr s) ctl addr
      (fclass c.linkMode (ctl.extractLsb' 6 1) (ctl.extractLsb' 0 4)) := by
  have hfit := Config.valid_linkAddrLen hvalid
  refine exists_tookFrame (frame := fixedFrame ctl addr) hc hmem (List.cons_ne_nil _ _) ?_ fun u => ?_
  · rw [length_fixedFrame, Buf.size]
    omega
  · rw [← haddr, parseFrame_fixedFrame, FrameParse.answer, linkOf_fixed]

theorem receivesVariable_receiveVariable (ctl : Byte) (hc : s.config = some c) (hmem : s.MemOk)
    (haddr : addr.length = c.linkAddrLen) (hfit : 1 + addr.length + ud.length ≤ 255) :
    ReceivesVariable s (receiveVariable ctl addr ud s) ctl addr ud
      (fclass c.linkMode (ctl.extractLsb' 6 1) (ctl.extractLsb' 0 4)) := by
  refine exists_tookFrame (frame := variableFrame ctl addr ud) hc hmem (List.cons_ne_nil _ _) ?_ fun u => ?_
  · rw [length_variableFrame, Buf.size]
    omega
  · rw [← haddr, parseFrame_variableFrame ctl hfit, FrameParse.answer, ← haddr, linkOf_variable]

end

/-- Settles O25: each frame row delivers its octets and decodes them, and a frame of each kind of R360 is accepted. -/
theorem ft12FrameRows : Obligations.Ft12FrameRows := by
  intro c s hc hvalid hmem
  have received {start : Byte} {tail : List Byte} (hlen : tail.length ≤ 260) :=
    exists_delivered_linkOutcome (start := start) hc hmem hlen
  refine ⟨fun tail hlen => ⟨received hlen, received hlen, received hlen⟩, fun ctl addr ud haddr hfit => ⟨?_, ?_⟩, ?_⟩
  · exact receivesFixed_receiveFixed ctl hc hvalid hmem haddr
  · exact receivesVariable_receiveVariable ctl hc hmem haddr hfit
  · exact ⟨_, delivered_written [0xE5#8] hmem,
      receiveFrame_eq_answer (frame := [0xE5#8]) hc (List.cons_ne_nil _ _) (by decide) hmem⟩

/-! ### Function codes (45_ft12_link.md R361, R370 to R396) -/

section
variable {b7 prm b5 b4 : BitVec 1} {fc : BitVec 4}

theorem ctlOctet_prm : (ctlOctet b7 prm b5 b4 fc).extractLsb' 6 1 = prm := by simp [ctlOctet]

theorem ctlOctet_fc : (ctlOctet b7 prm b5 b4 fc).extractLsb' 0 4 = fc := by simp [ctlOctet]

end

/-- Every function code row of a mode is received with the name that the table gives its code. -/
theorem receives_ctlOctet {c : Config} {s : State} {mode : LinkMode} {addr ud : List Byte} (b7 b5 b4 : BitVec 1)
    (hc : s.config = some c) (hvalid : c.valid = true) (hmem : s.MemOk) (hmode : c.linkMode = mode)
    (haddr : addr.length = c.linkAddrLen) (hfit : 1 + addr.length + ud.length ≤ 255) :
    (∀ {prm : BitVec 1} {fc : BitVec 4} {name : FClass}, fclass mode prm fc = name →
      ReceivesFixed s (receiveFixed (ctlOctet b7 prm b5 b4 fc) addr s) (ctlOctet b7 prm b5 b4 fc) addr name) ∧
    (∀ {prm : BitVec 1} {fc : BitVec 4} {name : FClass}, fclass mode prm fc = name →
      ReceivesVariable s (receiveVariable (ctlOctet b7 prm b5 b4 fc) addr ud s) (ctlOctet b7 prm b5 b4 fc) addr ud
        name) := by
  constructor
  · intro prm fc name hname
    have h := receivesFixed_receiveFixed (ctlOctet b7 prm b5 b4 fc) hc hvalid hmem haddr
    rwa [ctlOctet_prm, ctlOctet_fc, hmode, hname] at h
  · intro prm fc name hname
    have h := receivesVariable_receiveVariable (ctlOctet b7 prm b5 b4 fc) hc hmem haddr hfit
    rwa [ctlOctet_prm, ctlOctet_fc, hmode, hname] at h

/-- Settles O26: each row delivers its control octet, and the table names its code. -/
theorem unbalancedFunctionCodes : Obligations.UnbalancedFunctionCodes := by
  intro c s b7 b5 b4 addr ud hc hvalid hmem hmode haddr hfit
  obtain ⟨fixedRow, variableRow⟩ := receives_ctlOctet b7 b5 b4 hc hvalid hmem hmode haddr hfit
  exact ⟨fixedRow rfl, fixedRow rfl, variableRow rfl, variableRow rfl, fixedRow rfl, fixedRow rfl, fixedRow rfl,
    fixedRow rfl, fixedRow rfl, fixedRow rfl, variableRow rfl, fixedRow rfl, fixedRow rfl, fixedRow rfl, fixedRow rfl⟩

/-- Settles O27: each row delivers its control octet, and the table names its code. -/
theorem balancedFunctionCodes : Obligations.BalancedFunctionCodes := by
  intro c s b7 b5 b4 addr ud hc hvalid hmem hmode haddr hfit
  obtain ⟨fixedRow, variableRow⟩ := receives_ctlOctet b7 b5 b4 hc hvalid hmem hmode haddr hfit
  exact ⟨fixedRow rfl, fixedRow rfl, fixedRow rfl, variableRow rfl, variableRow rfl, fixedRow rfl, fixedRow rfl,
    fixedRow rfl, fixedRow rfl, fixedRow rfl, fixedRow rfl⟩

/-- Settles O28: no row of the table names the codes listed. -/
theorem reservedFunctionCodes : Obligations.ReservedFunctionCodes :=
  ⟨by decide, by decide, by decide, by decide⟩

end Sys2Proof.Machine
end

section
/-! ## The FT1.2 encoders (45_ft12_link.md R362 to R364) -/

namespace Sys2Proof.Machine

/-- A frame that fits TXBUF is sent, and its length is TX_LEN. -/
theorem exists_sent {s : State} {frame : List Byte} (hmem : s.MemOk) (hfit : frame.length ≤ Buf.txbuf.size) :
    ∃ t, s.send frame State.finish = .next t ∧ Sent s t frame s.apci ∧ t.txLen.toNat = frame.length := by
  refine ⟨_, State.send_inside hfit, ⟨wrote_of_buf hmem rfl fun b hb => ?_, rfl⟩, ?_⟩
  · cases b
    case txbuf => exact absurd rfl hb
    all_goals rfl
  · exact (BitVec.toNat_ofNat ..).trans (Nat.mod_eq_of_lt (hfit.trans_lt (by decide)))

/-- Settles O23: the frame is the one octet E5. -/
theorem ft12EncSingle : Obligations.Ft12EncSingle := by
  intro c s hc hmem
  obtain ⟨t, hsend, hsent, _⟩ := exists_sent (frame := [0xE5#8]) hmem (by decide)
  exact ⟨t, (State.configured_some hc).trans hsend, hsent⟩

/-- Settles O21: the range check, and the fixed-length frame sent. -/
theorem ft12EncFixed : Obligations.Ft12EncFixed := by
  intro c s ctl a hc hvalid hmem
  have hout : exec (.ft12EncFixed ctl a) s = _ := State.configured_some hc
  refine State.check_claim hout rfl rfl Nat.not_le.symm fun _ hsend => ?_
  have hlen : (fixedFrame ctl (leOctets c.linkAddrLen a.toNat)).length = 4 + c.linkAddrLen := by
    rw [length_fixedFrame, leOctets_length]
  have haddr := Config.valid_linkAddrLen hvalid
  obtain ⟨t, ht, hsent, htx⟩ := exists_sent (frame := fixedFrame ctl (leOctets c.linkAddrLen a.toNat)) hmem
    (by rw [hlen, Buf.size]; omega)
  exact ⟨t, hsend.trans ht, hsent, htx.trans hlen⟩

/-- Settles O22: the three checks, and the variable-length frame sent. -/
theorem ft12EncVar : Obligations.Ft12EncVar := by
  intro c s ctl a hc hvalid hmem
  have haddr := Config.valid_linkAddrLen hvalid
  have hout : exec (.ft12EncVar ctl a) s = _ := State.configured_some hc
  refine State.check_claim hout rfl rfl Nat.not_le.symm fun _ hout => ?_
  refine State.check_claim hout rfl rfl Nat.one_le_iff_ne_zero fun _ hout => ?_
  refine State.check_claim hout rfl rfl Nat.not_lt.symm fun hlong hout => ?_
  rw [State.load_inside (by rw [Buf.size]; omega)] at hout
  have hlen : (variableFrame ctl (leOctets c.linkAddrLen a.toNat) (Mem.read s.abuf 0 s.asduLen.toNat)).length =
      1 + c.linkAddrLen + s.asduLen.toNat + 6 := by
    rw [length_variableFrame, leOctets_length, Mem.length_read]
  obtain ⟨t, ht, hsent, htx⟩ := exists_sent hmem (hlen.trans_le (by rw [Buf.size]; omega))
  refine ⟨t, hout.trans ht, ?_, htx.trans hlen⟩
  rwa [variableFrame, leOctets_length, Mem.length_read] at hsent

end Sys2Proof.Machine
end

section
/-! ## The APCI unit: what one received APDU does (46_apci.md R414 to R425, R430)

The checks of APCI_RECEIVE pair with the `if`s of their claims by `State.check_claim` and its fatal counterpart, and the
window after a retirement is stated once, for I- and S-frames alike. -/

namespace Sys2Proof.Machine

/-! ### Fatal statuses (60_exceptions.md R503) -/

theorem State.raise_fatally {s : State} {e : Status} {info : BitVec 16} (hf : e.fatal = true) :
    s.raise e info = fatally s e.code info := by
  rw [State.raise_eq, if_pos hf]
  rfl

/-- One check of APCI_RECEIVE that is fatal against one `if` of its claim. -/
theorem State.check_claim_fatal {s : State} {p q : Prop} [Decidable p] [Decidable q] {e : Status} {code : Byte}
    {info : BitVec 16} {k out : Out} {claim : Prop} (hout : out = s.check p e info k) (hf : e.fatal = true)
    (hcode : e.code = code) (hpq : p ↔ ¬ q) (hpass : p → out = k → claim) :
    if q then out = fatally s code info else claim := by
  split
  · next hq => rw [hout, State.check_neg (hpq.not_left.mpr hq), State.raise_fatally hf, hcode]
  · next hq => exact hpass (hpq.mpr hq) (hout.trans (State.check_pos (hpq.mpr hq)))

/-! ### The window after a valid N(R) (R415, R430) -/

theorem Apci.nrValid_iff {a : Apci} {nr : SeqNo} : a.nrValid nr = true ↔ NrValid a nr := decide_eq_true_iff

/-- The registers that the last clause of `Retired` speaks of, after STOPDT completion (R430). -/
theorem Apci.completeStop_stops (a : Apci) (role : ApciRole) :
    if a.state = .unconfirmedStopped ∧ a.winCount = 0 ∧ role = .controlled then
      (a.completeStop role).state = .stopped ∧ (a.completeStop role).respStopdtCon = true
    else (a.completeStop role).state = a.state ∧ (a.completeStop role).respStopdtCon = a.respStopdtCon := by
  unfold Apci.completeStop
  split <;> exact ⟨rfl, rfl⟩

/-! ### The counters of an accepted I-frame (R418) -/

theorem add_one_eq_ofNat (n : SeqNo) : n + 1#15 = BitVec.ofNat 15 ((n.toNat + 1) % 32768) := by
  bv_omega

theorem incSaturating_eq (n : SeqNo) : incSaturating n = BitVec.ofNat 15 (min (n.toNat + 1) 32767) := by
  unfold incSaturating
  split
  · next h => subst h; rfl
  · next h =>
    rw [Nat.min_eq_left (by bv_omega), ← BitVec.toNat_inj]
    bv_omega

/-! ### Accepted frames (R418, R419) -/

section
variable {c : Config} {a : Apci} {nr : SeqNo}

theorem windowOk.winCount_le (hvalid : c.valid = true) (hwin : windowOk c a) : a.winCount ≤ 32767 := by
  obtain ⟨-, -, hcount, -⟩ := hwin
  exact hcount.trans (Config.valid_k hvalid).2

/-- What an accepted frame makes of the window, whatever its format. -/
theorem retired_heard (hcount : a.winCount ≤ 32767) (hnr : NrValid a nr) (kind : AKind) (ns nr' : SeqNo)
    (ufn : Option Ufn) (off : BitVec 16) (len : Byte) :
    Retired c a (((a.heard kind ns nr' ufn off len).retire c.k nr).completeStop c.apciRole) nr := by
  have hn : (a.heard kind ns nr' ufn off len).retireCount nr = a.winCount - (a.vs - nr).toNat :=
    Apci.retireCount_eq hcount (Apci.nrValid_iff.mpr hnr)
  have hstop := Apci.completeStop_stops ((a.heard kind ns nr' ufn off len).retire c.k nr) c.apciRole
  rw [Apci.completeStop_frame, Retired, ← hn]
  refine ⟨rfl, rfl, rfl, (BitVec.toNat_ofNat ..).trans (Nat.mod_eq_of_lt (by omega)), ?_, hstop⟩
  simp only [Apci.retire, Nat.pos_iff_ne_zero, ite_not]
  rfl

theorem acceptedI_acceptI {n : Nat} (hcount : a.winCount ≤ 32767) (hnr : NrValid a nr) (hn : n ≤ 255) :
    AcceptedI c a (a.acceptI c a.vr nr n) nr n := by
  refine ⟨?_, retired_heard hcount hnr .i a.vr nr none 6#16 (BitVec.ofNat 8 n), ?_⟩
  · rw [Apci.acceptI_frame]
    exact ⟨rfl, rfl, rfl, rfl, rfl, (BitVec.toNat_ofNat ..).trans (Nat.mod_eq_of_lt (by omega))⟩
  · have hunack : (a.acceptI c a.vr nr n).unackRx = incSaturating a.unackRx := by
      rw [Apci.acceptI, Apci.countRx, Apci.completeStop_frame]
      rfl
    rw [← add_one_eq_ofNat, ← incSaturating_eq, ← hunack, Apci.acceptI_frame]
    rfl

theorem acceptedS_acceptS (hcount : a.winCount ≤ 32767) (hnr : NrValid a nr) :
    AcceptedS c a (a.acceptS c nr) nr := by
  refine ⟨?_, retired_heard hcount hnr .s 0#15 nr none 0#16 0#8, ?_⟩
  · rw [Apci.acceptS_frame]
    exact ⟨rfl, rfl, rfl, rfl, rfl, rfl⟩
  · rw [Apci.acceptS_frame]
    rfl

end

/-! ### Frames of each format (R418 to R425) -/

section
variable {c : Config} {s : State} {nr : SeqNo}

theorem receiveI_of_valid (n : Nat) (hstate : s.apci.state ≠ .stopped) (hnr : NrValid s.apci nr) :
    receiveI c s.apci.vr nr n s = completes { s with apci := s.apci.acceptI c s.apci.vr nr n } := by
  rw [receiveI, State.check_pos hstate, State.check_pos rfl, State.check_pos (Apci.nrValid_iff.mpr hnr)]
  rfl

theorem iOutcome_receiveI (ns : SeqNo) {n : Nat} (hcount : s.apci.winCount ≤ 32767) (hn : n ≤ 255) :
    IOutcome c s (receiveI c ns nr n s) ns nr n := by
  refine ⟨fun hstop => ?_, fun hstate hns => ?_, fun hstate hns hnr => ?_, fun hstate hns hnr => ?_⟩
  · rw [receiveI, State.check_neg (not_not.mpr hstop), State.raise_fatally rfl]
    rfl
  · rw [receiveI, State.check_pos hstate, State.check_neg hns, State.raise_fatally rfl]
    rfl
  · rw [receiveI, State.check_pos hstate, State.check_pos hns, State.check_neg (mt Apci.nrValid_iff.mp hnr),
      State.raise_fatally rfl]
    rfl
  · subst hns
    exact ⟨_, acceptedI_acceptI hcount hnr hn, receiveI_of_valid n hstate hnr⟩

theorem receiveS_of_valid (hstate : s.apci.state ≠ .stopped) (hnr : NrValid s.apci nr) :
    receiveS c nr s = completes { s with apci := s.apci.acceptS c nr } := by
  rw [receiveS, State.check_pos hstate, State.check_pos (Apci.nrValid_iff.mpr hnr)]
  rfl

theorem sOutcome_receiveS (hcount : s.apci.winCount ≤ 32767) : SOutcome c s (receiveS c nr s) nr := by
  refine ⟨fun hstop => ?_, fun hstate hnr => ?_, fun hstate hnr =>
    ⟨_, acceptedS_acceptS hcount hnr, receiveS_of_valid hstate hnr⟩⟩
  · rw [receiveS, State.check_neg (not_not.mpr hstop), State.raise_fatally rfl]
    rfl
  · rw [receiveS, State.check_pos hstate, State.check_neg (mt Apci.nrValid_iff.mp hnr), State.raise_fatally rfl]
    rfl

end

/-- A received U-frame ends OK with its effect, and is unexpected where it has none (R420 to R425). -/
theorem uEffect?_outcome {role : ApciRole} {a : Apci} (fn : Ufn) (hstate : a.state ≠ .faulted) :
    (uEffect? role a fn).elim (UOutcome role a fn a .uUnexpected) (UOutcome role a fn · .ok) := by
  cases fn with
  | startdtAct =>
    rw [uEffect?]
    split
    · next h => exact .inl ⟨h.1, h.2, rfl, rfl⟩
    · next hstopped =>
      split
      · next h => exact .inr (.inl ⟨h.1, h.2, rfl, rfl⟩)
      · next hstarted =>
        exact .inr (.inr ⟨fun h => h.2.elim (hstopped ⟨h.1, ·⟩) (hstarted ⟨h.1, ·⟩), rfl, rfl⟩)
  | startdtCon | stopdtCon =>
    rw [uEffect?]
    split
    · next h => exact .inl ⟨h.1, h.2, rfl, rfl⟩
    · next h => exact .inr ⟨h, rfl, rfl⟩
  | stopdtAct =>
    rw [uEffect?]
    split
    · next h =>
      split
      · next hcount => exact .inl ⟨h.1, h.2, hcount, rfl, rfl⟩
      · next hcount => exact .inr (.inl ⟨h.1, h.2, hcount, rfl, rfl⟩)
    · next hrunning =>
      split
      · next h => exact .inr (.inr (.inl ⟨h.1, h.2, rfl, rfl⟩))
      · next hstopped =>
        refine .inr (.inr (.inr ⟨fun hrole => ?_, rfl, rfl⟩))
        cases hs : a.state with
        | stopped => exact hstopped ⟨hrole, hs⟩
        | started => exact hrunning ⟨hrole, .inl hs⟩
        | unconfirmedStopped => exact hrunning ⟨hrole, .inr hs⟩
        | faulted => exact hstate hs
  | testfrAct => exact ⟨rfl, rfl⟩
  | testfrCon =>
    rw [uEffect?]
    split
    · next h => exact .inl ⟨h, rfl, rfl⟩
    · next h => exact .inr ⟨Bool.eq_false_of_not_eq_true h, rfl, rfl⟩

theorem uResult_receiveU {c : Config} {s : State} (fn : Ufn) (hstate : s.apci.state ≠ .faulted) :
    UResult c s (receiveU c fn s) fn := by
  have houtcome : (uEffect? c.apciRole (s.apci.heard .u 0#15 0#15 (some fn) 0#16 0#8) fn).elim _ _ :=
    uEffect?_outcome fn hstate
  unfold receiveU
  split
  · next a ha => exact ⟨a, .ok, by rwa [ha] at houtcome, rfl⟩
  · next ha => exact ⟨_, .uUnexpected, by rwa [ha] at houtcome, State.raise_refuses rfl⟩

/-! ### The checks of APCI_RECEIVE (R417) -/

/-- What a frame that carries no ASDU does: an S-frame, a U-frame or an unknown format (R411). -/
def receiveControl (c : Config) (ctrl1 : Byte) (nr : SeqNo) (s : State) : Out :=
  match classify ctrl1 with
  | .s => receiveS c nr s
  | .u fn => receiveU c fn s
  | _ => s.raise .framingError 2#16

/-- The check of the format, and what the frame does. -/
def receiveFramed (c : Config) (os : List Byte) (s : State) : Out :=
  if classify (octet os 2) = .i then
    receiveI c (seqOf (octet os 2) (octet os 3)) (seqOf (octet os 4) (octet os 5)) ((octet os 1).toNat - 4) s
  else
    s.check ((octet os 1).toNat = 4) .framingError 1#16 <|
    receiveControl c (octet os 2) (seqOf (octet os 4) (octet os 5)) s

theorem takeApdu_eq (c : Config) (os : List Byte) (s : State) :
    takeApdu c os s =
      (s.check (6 ≤ os.length) .framingError (BitVec.ofNat 16 os.length) <|
      s.check (octet os 0 = 0x68#8) .framingError 0#16 <|
      s.check (4 ≤ (octet os 1).toNat ∧ (octet os 1).toNat ≤ 253 ∧ os.length = (octet os 1).toNat + 2)
        .framingError 1#16 <|
      receiveFramed c os s) := by
  unfold takeApdu
  cases hclass : classify (octet os 2) with
  | i => rw [receiveFramed, if_pos hclass]
  | s | u fn | none =>
    rw [receiveFramed, if_neg (by rw [hclass]; exact ApduFormat.noConfusion), receiveControl, hclass]

/-- The lowest bit of the first control octet is 0 in I-frames only (R411). -/
theorem classify_eq_i_iff : ∀ ctrl1 : Byte, classify ctrl1 = .i ↔ ctrl1.toNat % 2 = 0 := by
  decide

theorem classify_ufnCode : ∀ fn : Ufn, classify (ufnCode fn) = .u fn
  | .startdtAct | .startdtCon | .stopdtAct | .stopdtCon | .testfrAct | .testfrCon => rfl

theorem receiveControl_ufnCode (c : Config) (fn : Ufn) (nr : SeqNo) (s : State) :
    receiveControl c (ufnCode fn) nr s = receiveU c fn s := by
  rw [receiveControl, classify_ufnCode]

theorem receiveControl_unknown {ctrl1 : Byte} (c : Config) (nr : SeqNo) (s : State) (h : classify ctrl1 = .none) :
    receiveControl c ctrl1 nr s = fatally s 0x10#8 2#16 := by
  rw [receiveControl, h, State.raise_fatally rfl]
  rfl

theorem classify_eq_none : ∀ ctrl1 : Byte, ctrl1.toNat % 2 ≠ 0 →
    ctrl1 ∉ [0x01#8, 0x07#8, 0x0B#8, 0x13#8, 0x23#8, 0x43#8, 0x83#8] → classify ctrl1 = .none := by
  decide

/-- A frame that carries no ASDU, by its first control octet (30_encoding.md R111). -/
theorem receiveControl_claim {c : Config} {s : State} {ctrl1 : Byte} {nr : SeqNo} {out : Out}
    (hout : out = receiveControl c ctrl1 nr s) (hodd : ctrl1.toNat % 2 ≠ 0) (hcount : s.apci.winCount ≤ 32767)
    (hstate : s.apci.state ≠ .faulted) :
    if ctrl1 = 0x01#8 then SOutcome c s out nr
    else if ctrl1 = 0x07#8 then UResult c s out .startdtAct
    else if ctrl1 = 0x0B#8 then UResult c s out .startdtCon
    else if ctrl1 = 0x13#8 then UResult c s out .stopdtAct
    else if ctrl1 = 0x23#8 then UResult c s out .stopdtCon
    else if ctrl1 = 0x43#8 then UResult c s out .testfrAct
    else if ctrl1 = 0x83#8 then UResult c s out .testfrCon
    else out = fatally s 0x10#8 2#16 := by
  have expected (fn : Ufn) (h : ctrl1 = ufnCode fn) : UResult c s out fn := by
    rw [hout, h, receiveControl_ufnCode]
    exact uResult_receiveU fn hstate
  split_ifs with hs hstartAct hstartCon hstopAct hstopCon htestAct htestCon
  · rw [hout, hs]
    exact sOutcome_receiveS hcount
  · exact expected .startdtAct hstartAct
  · exact expected .startdtCon hstartCon
  · exact expected .stopdtAct hstopAct
  · exact expected .stopdtCon hstopCon
  · exact expected .testfrAct htestAct
  · exact expected .testfrCon htestCon
  · have hnone : classify ctrl1 = .none := classify_eq_none ctrl1 hodd (by simp [*])
    rw [hout, receiveControl_unknown c nr s hnone]

/-- Settles O30: each check against its clause, and then the format that the first control octet names. -/
theorem apciReceive : Obligations.ApciReceive := by
  intro c s len hc hvalid hwin
  have hcount := windowOk.winCount_le hvalid hwin
  have hout : exec (.apciReceive len) s = _ := State.configured_some hc
  refine State.check_claim hout rfl rfl Iff.rfl fun hstate hout => ?_
  refine State.check_claim hout rfl rfl Nat.not_lt.symm fun hlen hout => ?_
  rw [State.load_inside (by rwa [Nat.zero_add]), takeApdu_eq, State.buf_rxbuf, Mem.length_read, BitVec.ofNat_toNat,
    BitVec.setWidth_eq] at hout
  refine State.check_claim_fatal hout rfl rfl Nat.not_lt.symm fun _ hout => ?_
  refine State.check_claim_fatal hout rfl rfl not_not.symm fun _ hout => ?_
  refine State.check_claim_fatal hout rfl rfl (by omega) fun hl hout => ?_
  rw [receiveFramed] at hout
  split
  · next hi =>
    rw [if_pos ((classify_eq_i_iff _).mpr hi)] at hout
    rw [hout]
    exact iOutcome_receiveI _ hcount (by omega)
  · next hodd =>
    rw [if_neg (mt (classify_eq_i_iff _).mp hodd)] at hout
    exact State.check_claim_fatal hout rfl rfl not_not.symm fun _ hout => receiveControl_claim hout hodd hcount hstate

/-! ### Rows of the APDU formats (log entry 2) -/

theorem State.check_congr {s : State} {p q : Prop} [Decidable p] [Decidable q] {e : Status} {info : BitVec 16} {k : Out}
    (h : p ↔ q) : s.check p e info k = s.check q e info k :=
  if_congr h rfl rfl

/-- Two checks that raise the same are one. -/
theorem State.check_check {s : State} {p q : Prop} [Decidable p] [Decidable q] {e : Status} {info : BitVec 16}
    {k : Out} : s.check p e info (s.check q e info k) = s.check (p ∧ q) e info k := by
  by_cases hp : p
  · rw [State.check_pos hp, State.check_congr (and_iff_right hp)]
  · rw [State.check_neg hp, State.check_neg (mt And.left hp)]

theorem receiveApdu_of_faulted {c : Config} {s : State} (len : BitVec 16) (hc : s.config = some c)
    (hfaulted : s.apci.state = .faulted) : receiveApdu len s = refusal s 0x15#8 0#16 := by
  rw [receiveApdu, State.configured_some hc, State.check_neg (not_not.mpr hfaulted), State.raise_refuses rfl]
  rfl

theorem receiveApdu_of_fits {c : Config} {s : State} {len : BitVec 16} (hc : s.config = some c)
    (hstate : s.apci.state ≠ .faulted) (hlen : len.toNat ≤ Buf.rxbuf.size) :
    receiveApdu len s = takeApdu c (Mem.read s.rxbuf 0 len.toNat) s := by
  rw [receiveApdu, State.configured_some hc, State.check_pos hstate, State.check_pos hlen,
    State.load_inside (by rwa [Nat.zero_add]), State.buf_rxbuf]

section
variable {c : Config} {s : State} {ctrl1 ctrl2 ctrl3 ctrl4 : Byte} {tail : List Byte}

/-- Of an APDU with a right length octet R417 checks how much follows its control octets. -/
theorem takeApdu_apduOctets (hlen : tail.length ≤ 251) :
    takeApdu c (apduOctets ctrl1 ctrl2 ctrl3 ctrl4 tail) s =
      s.check (tail.length ≤ 249) .framingError 1#16
        (if classify ctrl1 = .i then receiveI c (seqOf ctrl1 ctrl2) (seqOf ctrl3 ctrl4) tail.length s
        else s.check (tail = []) .framingError 1#16 (receiveControl c ctrl1 (seqOf ctrl3 ctrl4) s)) := by
  have hlength : (apduOctets ctrl1 ctrl2 ctrl3 ctrl4 tail).length = tail.length + 6 := rfl
  have hl : (octet (apduOctets ctrl1 ctrl2 ctrl3 ctrl4 tail) 1).toNat = 4 + tail.length :=
    (BitVec.toNat_ofNat ..).trans (Nat.mod_eq_of_lt (by omega))
  have hstart : octet (apduOctets ctrl1 ctrl2 ctrl3 ctrl4 tail) 0 = 0x68#8 := rfl
  have hframed : receiveFramed c (apduOctets ctrl1 ctrl2 ctrl3 ctrl4 tail) s =
      if classify ctrl1 = .i then receiveI c (seqOf ctrl1 ctrl2) (seqOf ctrl3 ctrl4) (_ - 4) s
      else s.check (_ = 4) .framingError 1#16 (receiveControl c ctrl1 (seqOf ctrl3 ctrl4) s) := rfl
  have hempty : 4 + tail.length = 4 ↔ tail = [] := by rw [← List.length_eq_zero_iff]; omega
  rw [takeApdu_eq, State.check_pos (by omega), State.check_pos hstart, hframed, hl, Nat.add_sub_cancel_left,
    State.check_congr hempty, State.check_congr (q := tail.length ≤ 249) (by omega)]

/-- Nothing may follow the control octets of an S- or U-frame. -/
theorem takeApdu_apduOctets_control (hlen : tail.length ≤ 251) (hctrl : classify ctrl1 ≠ .i) :
    takeApdu c (apduOctets ctrl1 ctrl2 ctrl3 ctrl4 tail) s =
      s.check (tail = []) .framingError 1#16 (receiveControl c ctrl1 (seqOf ctrl3 ctrl4) s) := by
  rw [takeApdu_apduOctets hlen, if_neg hctrl, State.check_check, State.check_congr (and_iff_right_of_imp ?_)]
  rintro rfl
  exact Nat.zero_le _

/-- A row finds its frame at RXBUF[0..]. It is refused in FAULTED, and else `claim` is about what the frame does. -/
theorem exists_delivered_apdu {claim : State → Prop} {out : Out} (hc : s.config = some c) (hmem : s.MemOk)
    (hlen : tail.length ≤ 251) (hout : out = receiveFormat ctrl1 ctrl2 ctrl3 ctrl4 tail s)
    (hclaim : ∀ u, u.apci = s.apci → s.apci.state ≠ .faulted →
      out = takeApdu c (apduOctets ctrl1 ctrl2 ctrl3 ctrl4 tail) u → claim u) :
    ∃ u, Delivered s u (apduOctets ctrl1 ctrl2 ctrl3 ctrl4 tail) ∧
      if s.apci.state = .faulted then out = refusal u 0x15#8 0#16 else claim u := by
  have hfit : (apduOctets ctrl1 ctrl2 ctrl3 ctrl4 tail).length ≤ Buf.rxbuf.size :=
    (Nat.add_le_add_right hlen 6).trans (by decide)
  have hdelivered := delivered_written (apduOctets ctrl1 ctrl2 ctrl3 ctrl4 tail) hmem
  replace hout := hout.trans (State.deliver_eq (List.cons_ne_nil _ _) hfit)
  refine ⟨_, hdelivered, ?_⟩
  split
  · next hfaulted => exact hout.trans (receiveApdu_of_faulted (s := s.written ..) _ hc hfaulted)
  · next hstate =>
    have hwidth : (BitVec.ofNat 16 (apduOctets ctrl1 ctrl2 ctrl3 ctrl4 tail).length).toNat = _ :=
      (BitVec.toNat_ofNat ..).trans (Nat.mod_eq_of_lt (hfit.trans_lt (by decide)))
    have htake := receiveApdu_of_fits (s := s.written .rxbuf 0 (apduOctets ctrl1 ctrl2 ctrl3 ctrl4 tail)) hc hstate
      (hwidth.trans_le hfit)
    rw [hwidth, hdelivered.read] at htake
    exact hclaim _ rfl hstate (hout.trans htake)

end

/-- An octet whose lowest bit is 0 begins an I-frame, and its other bits are the low ones of N(S) (R411, R412). -/
theorem classify_append_zero : ∀ ns7 : BitVec 7, classify (ns7 ++ 0#1) = .i := by
  decide

theorem seqOf_append_zero (ns7 : BitVec 7) (hi : Byte) : seqOf (ns7 ++ 0#1) hi = hi ++ ns7 := by
  simp [seqOf]

/-- Settles O31: the row delivers its frame, and the frame is an I-frame. -/
theorem iFrameRow : Obligations.IFrameRow := by
  intro c s ns7 ctrl2 ctrl3 ctrl4 tail hc hvalid hmem hwin hlen
  refine exists_delivered_apdu hc hmem hlen rfl fun u hu _ hout => ?_
  rw [takeApdu_apduOctets hlen, if_pos (classify_append_zero ns7), seqOf_append_zero] at hout
  refine State.check_claim_fatal hout rfl rfl Nat.not_lt.symm fun hfit hout => ?_
  rw [hout]
  exact iOutcome_receiveI _ (hu ▸ windowOk.winCount_le hvalid hwin) (by omega)

/-- Settles O32: the row delivers its frame, and the frame is an S-frame. -/
theorem sFrameRow : Obligations.SFrameRow := by
  intro c s ctrl2 ctrl3 ctrl4 tail hc hvalid hmem hwin hlen
  refine exists_delivered_apdu hc hmem hlen rfl fun u hu _ hout => ?_
  rw [takeApdu_apduOctets_control hlen (by decide)] at hout
  refine State.check_claim_fatal hout rfl rfl not_not.symm fun _ hout => ?_
  rw [hout]
  exact sOutcome_receiveS (hu ▸ windowOk.winCount_le hvalid hwin)

/-- Settles O33: each row delivers its frame, and the frame is a U-frame of its function. -/
theorem uFrameRows : Obligations.UFrameRows := by
  intro c s fn ctrl2 ctrl3 ctrl4 tail hc _ hmem hlen
  have hrow : exec (uRow fn ctrl2 ctrl3 ctrl4 tail) s = receiveFormat (ufnCode fn) ctrl2 ctrl3 ctrl4 tail s := by
    cases fn <;> rfl
  refine exists_delivered_apdu (ctrl1 := ufnCode fn) hc hmem hlen hrow fun u hu hstate hout => ?_
  rw [takeApdu_apduOctets_control hlen (by rw [classify_ufnCode]; exact ApduFormat.noConfusion)] at hout
  refine State.check_claim_fatal hout rfl rfl not_not.symm fun _ hout => ?_
  rw [hout, receiveControl_ufnCode]
  exact uResult_receiveU fn (hu ▸ hstate)

end Sys2Proof.Machine
end


section
/-! ## The commands of the APCI unit (46_apci.md R426 to R429) -/

namespace Sys2Proof.Machine

/-! ### A frame that is sent -/

/-- A frame that fits TXBUF is sent, and what follows writes the registers of the APCI unit. -/
theorem exists_sent_apci {s : State} {frame : List Byte} {a : Apci} {k : State → Out} (hmem : s.MemOk)
    (hfit : frame.length ≤ Buf.txbuf.size)
    (hk : k (s.transmitted frame) = State.finish { s.transmitted frame with apci := a }) :
    ∃ t, s.send frame k = .next t ∧ Sent s t frame a ∧ t.txLen.toNat = frame.length := by
  obtain ⟨t, ht, ⟨hwrote, -⟩, htx⟩ := exists_sent hmem hfit
  rw [State.send_inside hfit] at ht
  cases ht
  exact ⟨_, (State.send_inside hfit).trans hk, ⟨hwrote, rfl⟩, htx⟩

/-- The two octets of a sequence number are those of R413. -/
theorem seqOctets_eq (n : SeqNo) : seqOctets n = [seqLo n, seqHi n] := by
  have hlo : seqLo n = BitVec.ofNat 8 (n.toNat % 128 * 2) := by
    apply BitVec.eq_of_toNat_eq
    rw [seqLo, BitVec.toNat_append, BitVec.extractLsb'_toNat, BitVec.toNat_zero, Nat.shiftRight_zero, Nat.or_zero,
      Nat.shiftLeft_eq, BitVec.toNat_ofNat, Nat.mod_eq_of_lt (a := n.toNat % 128 * 2) (by omega)]
  have hhi : seqHi n = BitVec.ofNat 8 (n.toNat / 128) := by
    apply BitVec.eq_of_toNat_eq
    rw [seqHi, BitVec.extractLsb'_toNat, Nat.shiftRight_eq_div_pow, BitVec.toNat_ofNat]
  rw [seqOctets, hlo, hhi]

/-! ### APCI_SEND_I (R426) -/

theorem length_iFrameOctets (ns nr : SeqNo) (asdu : List Byte) :
    (iFrameOctets ns nr asdu).length = asdu.length + 6 := rfl

/-- An ASDU of a length that is allowed is framed and recorded. -/
theorem exists_sent_iFrame {c : Config} {s : State} (tag : Tag) (hmem : s.MemOk) (hlen : s.asduLen.toNat ≤ 249) :
    ∃ t, (s.load .abuf 0 s.asduLen.toNat fun asdu =>
        s.send (iFrameOctets s.apci.vs s.apci.vr asdu) fun t => { t with apci := s.apci.sent c.k tag }.finish) =
          .next t ∧
      Sent s t (iFrameOctets s.apci.vs s.apci.vr (Mem.read s.abuf 0 s.asduLen.toNat)) (s.apci.sent c.k tag) ∧
      t.txLen.toNat = s.asduLen.toNat + 6 := by
  have hlength : (iFrameOctets s.apci.vs s.apci.vr (Mem.read s.abuf 0 s.asduLen.toNat)).length =
      s.asduLen.toNat + 6 := by
    rw [length_iFrameOctets, Mem.length_read]
  rw [State.load_inside (by rw [Buf.size]; omega), State.buf_abuf, ← hlength]
  exact exists_sent_apci hmem (by rw [hlength, Buf.size]; omega) rfl

/-- Settles O34: the five checks, and the I-frame sent. -/
theorem apciSendI : Obligations.ApciSendI := by
  intro c s tag hc _ hmem
  have hout : exec (.apciSendI tag) s = _ := State.configured_some hc
  refine State.check_claim hout rfl rfl Iff.rfl fun _ hout => ?_
  refine State.check_claim hout rfl rfl not_not.symm fun _ hout => ?_
  refine State.check_claim hout rfl rfl Nat.not_le.symm fun _ hout => ?_
  refine State.check_claim hout rfl rfl Nat.one_le_iff_ne_zero fun _ hout => ?_
  refine State.check_claim hout rfl rfl Nat.not_lt.symm fun hlen hout => ?_
  obtain ⟨t, ht, hsent, htx⟩ := exists_sent_iFrame (c := c) tag hmem hlen
  refine ⟨t, hout.trans ht, ?_, htx⟩
  rw [seqOctets_eq, seqOctets_eq]
  rwa [iFrameOctets, Mem.length_read] at hsent

/-! ### APCI_SEND_S (R427) -/

/-- Settles O35: the two checks, and the S-frame sent. -/
theorem apciSendS : Obligations.ApciSendS := by
  intro c s hc hmem
  have hout : exec .apciSendS s = _ := State.configured_some hc
  refine State.check_claim hout rfl rfl Iff.rfl fun _ hout => ?_
  refine State.check_claim hout rfl rfl Iff.rfl fun _ hout => ?_
  obtain ⟨t, ht, hsent, _⟩ := exists_sent_apci (frame := sFrameOctets s.apci.vr)
    (a := { s.apci with unackRx := 0#15 }) (k := fun t => { t with apci.unackRx := 0#15 }.finish) hmem
    (Nat.le_of_ble_eq_true rfl) rfl
  refine ⟨t, hout.trans ht, ?_⟩
  rwa [seqOctets_eq]

/-! ### APCI_SEND_U (R428) -/

/-- The rows of R428, as the claims say them. -/
theorem uSendable_iff {role : ApciRole} {a a' : Apci} {fn : Ufn} :
    USendable role a fn a' ↔ uSend? role a fn = some a' := by
  cases fn
  all_goals
    rw [USendable, uSend?]
    simp only [Option.ite_none_right_eq_some, Option.some.injEq, and_assoc, eq_comm (a := a')]

/-- Settles O36: the row of the function allows it and its frame is sent, or the function is refused. -/
theorem apciSendU : Obligations.ApciSendU := by
  intro c s fn hc hmem
  have hout : execApciSendU fn s = _ := State.configured_some hc
  refine ⟨fun hfaulted => ?_, fun hstate hnone => ?_, fun hstate a ha => ?_⟩
  · exact hout.trans ((State.check_neg (not_not.mpr hfaulted)).trans (State.raise_refuses rfl))
  · have hsend : uSend? c.apciRole s.apci fn = none :=
      Option.eq_none_iff_forall_ne_some.mpr fun a ha => hnone a (uSendable_iff.mpr ha)
    rw [State.check_pos hstate, hsend] at hout
    exact hout.trans (State.raise_refuses rfl)
  · rw [State.check_pos hstate, uSendable_iff.mp ha] at hout
    obtain ⟨t, ht, hsent, _⟩ := exists_sent_apci (frame := uFrameOctets fn) (a := a)
      (k := fun t => { t with apci := a }.finish) hmem (Nat.le_of_ble_eq_true rfl) rfl
    exact ⟨t, hout.trans ht, hsent⟩

/-! ### APCI_RESET (R429) -/

/-- Settles O37: with a configuration the command has no check. -/
theorem apciResetCommand : Obligations.ApciResetCommand :=
  fun _ _ hc => State.configured_some hc

end Sys2Proof.Machine
end

section
/-! ## Confirmation and delivery across the APCI unit (46_apci.md R412, R413, R415, R418, R419, R426) -/

namespace Sys2Proof.Machine

/-! ### Commands that ended OK -/

theorem State.raise_not_ok {s t : State} {e : Status} {info : BitVec 16} (h : s.raise e info = .next t) (he : e ≠ .ok) :
    t.status ≠ 0x00#8 := by
  rw [State.raise_eq] at h
  cases h
  exact fun hok => he (Status.code_eq_ok hok)

/-- A check has passed in a command that ended OK, also where its status is fatal. -/
theorem State.check_passed {s t : State} {p : Prop} [Decidable p] {e : Status} {info : BitVec 16} {k : Out}
    (h : s.check p e info k = .next t) (hok : t.status = 0x00#8) (he : e ≠ .ok) : p ∧ k = .next t := by
  rcases State.check_next h with h | ⟨_, h⟩
  · exact h
  · exact absurd hok (State.raise_not_ok h he)

section
variable {c : Config} {s t : State} {nr : SeqNo}

theorem receiveI_kind {ns : SeqNo} {n : Nat} (h : receiveI c ns nr n s = .next t) (hok : t.status = 0x00#8) :
    t.apci.rx.kind = .i := by
  obtain ⟨-, h⟩ := State.check_passed h hok (by decide)
  obtain ⟨-, h⟩ := State.check_passed h hok (by decide)
  obtain ⟨-, h⟩ := State.check_passed h hok (by decide)
  cases h
  rw [State.withStatus_apci, Apci.acceptI_frame]
  rfl

theorem receiveS_ok (h : receiveS c nr s = .next t) (hok : t.status = 0x00#8) :
    s.apci.state ≠ .stopped ∧ NrValid s.apci nr ∧ t = { s with apci := s.apci.acceptS c nr }.withStatus .ok 0#16 := by
  obtain ⟨hstate, h⟩ := State.check_passed h hok (by decide)
  obtain ⟨hnr, h⟩ := State.check_passed h hok (by decide)
  cases h
  exact ⟨hstate, Apci.nrValid_iff.mp hnr, rfl⟩

theorem receiveU_kind {fn : Ufn} (h : receiveU c fn s = .next t) (hok : t.status = 0x00#8) : t.apci.rx.kind = .u := by
  unfold receiveU at h
  split at h
  · next ha =>
    cases h
    rw [State.withStatus_apci, uEffect?_frame ha]
    rfl
  · exact absurd hok (State.raise_not_ok h (by decide))

/-- Octets that one station accepted as an S-frame are an S-frame to every station. -/
theorem takeApdu_sFrame {os : List Byte} (h : takeApdu c os s = .next t) (hok : t.status = 0x00#8)
    (hkind : t.apci.rx.kind = .s) : ∃ nr, ∀ u, takeApdu c os u = receiveS c nr u := by
  refine ⟨seqOf (octet os 4) (octet os 5), fun u => ?_⟩
  rw [takeApdu_eq] at h ⊢
  obtain ⟨hlong, h⟩ := State.check_passed h hok (by decide)
  obtain ⟨hstart, h⟩ := State.check_passed h hok (by decide)
  obtain ⟨hl, h⟩ := State.check_passed h hok (by decide)
  rw [State.check_pos hlong, State.check_pos hstart, State.check_pos hl]
  unfold receiveFramed at h ⊢
  split at h
  · rw [receiveI_kind h hok] at hkind
    cases hkind
  · next hi =>
    obtain ⟨hfour, h⟩ := State.check_passed h hok (by decide)
    rw [if_neg hi, State.check_pos hfour]
    unfold receiveControl at h ⊢
    split at h
    · rfl
    · rw [receiveU_kind h hok] at hkind
      cases hkind
    · exact absurd hok (State.raise_not_ok h (by decide))

end

/-! ### The same S-frame again (R415, R419, R430) -/

section
variable {c : Config} {a : Apci} {nr : SeqNo}

theorem Apci.retire_of_zero {k : Nat} (hzero : a.retireCount nr = 0) (hold : a.winOldest < k) :
    a.retire k nr = { a with rx.retired := 0#15 } := by
  rw [Apci.retire, hzero, Nat.add_zero, Nat.mod_eq_of_lt hold]
  rfl

/-- A frame that repeats what the A_* registers hold writes A_RETIRED only. -/
theorem heard_of_noted {kind : AKind} {ns nr : SeqNo} {ufn : Option Ufn} {off : BitVec 16} {len : Byte}
    (h : Noted a kind ns nr ufn off len.toNat) : a.heard kind ns nr ufn off len = { a with rx.retired := 0#15 } := by
  obtain ⟨rfl, rfl, rfl, rfl, rfl, hlen⟩ := h
  cases BitVec.eq_of_toNat_eq hlen
  rfl

/-- With the entries before N(R) gone, N(R) stays valid and retires none, and no STOPDT is left to complete. -/
theorem acceptS_again (hvalid : c.valid = true) (hwin : windowOk c a) (hnr : NrValid a nr)
    (hstate : (a.acceptS c nr).state ≠ .stopped) :
    (a.acceptS c nr).state = a.state ∧ NrValid (a.acceptS c nr) nr ∧
      (a.acceptS c nr).acceptS c nr = { a.acceptS c nr with rx.retired := 0#15 } := by
  have hcount := windowOk.winCount_le hvalid hwin
  obtain ⟨hnoted, ⟨hleft, hold, -, -, -, hstop⟩, hframe⟩ := acceptedS_acceptS hcount hnr
  have hvs : (a.acceptS c nr).vs = a.vs := by rw [hframe]
  generalize a.acceptS c nr = b at *
  split at hstop
  · exact absurd hstop.1 hstate
  next hrunning =>
  have hlive : b.winCount = (b.vs - nr).toNat := by
    rw [hleft, hvs]
    exact Nat.sub_sub_self hnr
  have hnr' : NrValid b nr := hlive.ge
  have hzero : b.retireCount nr = 0 := by
    rw [Apci.retireCount_eq (by omega) (Apci.nrValid_iff.mpr hnr'), hlive, Nat.sub_self]
  have hretire : { b with rx.retired := 0#15 }.retire c.k nr = _ :=
    Apci.retire_of_zero hzero (hold ▸ Nat.mod_lt _ (Config.valid_k hvalid).1)
  refine ⟨hstop.1, hnr', ?_⟩
  rw [Apci.acceptS, heard_of_noted hnoted, hretire]
  exact if_neg (hstop.1 ▸ hrunning)

end

/-- Settles O39: the first frame leaves a window in which its N(R) retires nothing, and no STOPDT to complete. -/
theorem confirmationIsIdempotent : Obligations.ConfirmationIsIdempotent := by
  intro c s t len hc hvalid hwin h hok hkind hstate
  have h : receiveApdu len s = .next t := h
  rw [receiveApdu, State.configured_some hc] at h
  obtain ⟨hfaulted, h⟩ := State.check_passed h hok (by decide)
  obtain ⟨hlen, h⟩ := State.check_passed h hok (by decide)
  obtain ⟨-, h⟩ := State.load_next h
  obtain ⟨nr, hframe⟩ := takeApdu_sFrame h hok hkind
  rw [hframe] at h
  obtain ⟨hstopped, hnr, rfl⟩ := receiveS_ok h hok
  obtain ⟨hsame, hnr', hagain⟩ := acceptS_again hvalid hwin hnr hstate
  have hout := receiveApdu_of_fits (s := { s with apci := s.apci.acceptS c nr }.withStatus .ok 0#16) hc
    (hsame.trans_ne hfaulted) hlen
  refine hout.trans ((hframe _).trans ((receiveS_of_valid hstate hnr').trans ?_))
  rw [State.withStatus_apci, hagain]
  rfl

/-! ### An I-frame from one station to another (R412, R413, R418, R426) -/

theorem seqOf_seqLo_seqHi (n : SeqNo) : seqOf (seqLo n) (seqHi n) = n := by
  simp [seqOf, seqLo, seqHi]

/-- The octets of an I-frame as an APDU. -/
theorem iFrameOctets_eq (ns nr : SeqNo) (asdu : List Byte) :
    iFrameOctets ns nr asdu = apduOctets (seqLo ns) (seqHi ns) (seqLo nr) (seqHi nr) asdu := rfl

theorem execApciSendI_ok {c : Config} {s t : State} {tag : Tag} (hc : s.config = some c) (hmem : s.MemOk)
    (h : exec (.apciSendI tag) s = .next t) (hok : t.status = 0x00#8) :
    s.asduLen.toNat ≤ 249 ∧ t.txLen.toNat = s.asduLen.toNat + 6 ∧
      Mem.read t.txbuf 0 t.txLen.toNat = iFrameOctets s.apci.vs s.apci.vr (Mem.read s.abuf 0 s.asduLen.toNat) := by
  replace h : execApciSendI tag s = .next t := h
  rw [execApciSendI, State.configured_some hc] at h
  obtain ⟨-, h⟩ := State.check_passed h hok (by decide)
  obtain ⟨-, h⟩ := State.check_passed h hok (by decide)
  obtain ⟨-, h⟩ := State.check_passed h hok (by decide)
  obtain ⟨-, h⟩ := State.check_passed h hok (by decide)
  obtain ⟨hlen, h⟩ := State.check_passed h hok (by decide)
  obtain ⟨t', ht', hsent, htx⟩ := exists_sent_iFrame (c := c) tag hmem hlen
  cases ht'.symm.trans h
  obtain ⟨⟨hwrote, -, -⟩, -⟩ := hsent
  exact ⟨hlen, htx, by rwa [length_iFrameOctets, Mem.length_read, ← htx] at hwrote⟩

/-- Settles O40: the frame sent is an I-frame with the N(S) that the other station expects. -/
theorem sentIFrameIsAccepted : Obligations.SentIFrameIsAccepted := by
  intro c d s t p u tag hc _ hmem h hok hd _ _ _ hstate hvr hnr hdelivered
  obtain ⟨hlen, htx, hread⟩ := execApciSendI_ok hc hmem h hok
  have hrx : Mem.read u.rxbuf 0 t.txLen.toNat = Mem.read t.txbuf 0 t.txLen.toNat := by
    have hrx := hdelivered.read
    rwa [Mem.length_read] at hrx
  obtain ⟨-, hu⟩ := hdelivered
  have hapci : u.apci = p.apci := by rw [hu]
  have hconfig : u.config = some d := by rw [hu]; exact hd
  rw [← hapci] at hstate hvr hnr
  have hstopped : u.apci.state ≠ .stopped := by
    rcases hstate with h | h <;> rw [h] <;> decide
  have hfaulted : u.apci.state ≠ .faulted := by
    rcases hstate with h | h <;> rw [h] <;> decide
  have hout := receiveApdu_of_fits hconfig hfaulted (len := t.txLen) (by rw [htx, Buf.size]; omega)
  rw [hrx, hread, iFrameOctets_eq, takeApdu_apduOctets (by rw [Mem.length_read]; omega), Mem.length_read,
    State.check_pos hlen, seqLo, if_pos (classify_append_zero _), ← seqLo, seqOf_seqLo_seqHi, seqOf_seqLo_seqHi, ← hvr,
    receiveI_of_valid _ hstopped hnr] at hout
  have hasdu : Mem.read u.rxbuf 6 s.asduLen.toNat = Mem.read s.abuf 0 s.asduLen.toNat := by
    have hoctets := hrx.trans hread
    rw [htx, Nat.add_comm, Mem.read_add] at hoctets
    exact (List.append_inj hoctets rfl).2
  refine ⟨_, hout, rfl, ?_⟩
  rw [Apci.acceptI_frame, ← hapci]
  exact ⟨rfl, rfl, rfl, (BitVec.ofNat_toNat ..).trans (BitVec.setWidth_eq _), hasdu⟩

end Sys2Proof.Machine
end

section
/-! ## The checksum unit (47_checksum.md R470 to R477) -/

namespace Sys2Proof.Machine

/-! ### SUM8 (R470) -/

theorem toNat_sum8 : ∀ os : List Byte, (sum8 os).toNat = (os.map BitVec.toNat).sum % 256
  | [] => rfl
  | o :: os => by
    have ih := toNat_sum8 os
    rw [sum8_eq_sum] at ih ⊢
    rw [List.sum_cons, List.map_cons, List.sum_cons, BitVec.toNat_add, ih, Nat.add_mod_mod]

theorem sum8_append (as bs : List Byte) : sum8 (as ++ bs) = sum8 as + sum8 bs := by
  rw [sum8_eq_sum, sum8_eq_sum, sum8_eq_sum, List.sum_append]

/-- Settles O45: the sum of octets is that of their numbers, which wraps at 256. -/
theorem sum8OfJoinedStrings : Obligations.Sum8OfJoinedStrings := ⟨toNat_sum8, sum8_append⟩

/-! ### Ends of the checksum commands -/

theorem State.closeSection_completes (s : State) :
    s.closeSection.finish = completes { s with chk := { sect := 0#8, file := s.chk.file + s.chk.sect } } := rfl

theorem State.addToSection_completes (s : State) (os : List Byte) :
    (s.addToSection os).finish = completes { s with chk.sect := s.chk.sect + sum8 os } := rfl

/-- The last check of a command, as an `if` over its two ends. -/
theorem State.check_eq_ite {s : State} {p : Prop} [Decidable p] {e : Status} {info : BitVec 16} {k : Out}
    (hf : e.fatal = false) : s.check p e info k = if p then k else refusal s e.code info := by
  rw [State.check, State.raise_refuses hf]

/-! ### Sections: CHK_RESET_FILE, CHK_BEGIN_SECTION, CHK_CLOSE_SECTION (R471, R472, R476) -/

/-- Settles O41: with a configuration the three commands have no check. -/
theorem chkStartAndClose : Obligations.ChkStartAndClose := by
  intro c s hc
  refine ⟨State.configured_some hc, State.configured_some hc, ?_⟩
  exact (State.configured_some hc).trans s.closeSection_completes

/-! ### CHK_ADD and CHK_ADD_ELEMENT (R473, R474) -/

/-- Settles O42: the check is that the octets lie in the buffer, so that they can be read. -/
theorem chkAdd : Obligations.ChkAdd := by
  intro c s b off len hc size
  have hsize : size = b.size := by cases b <;> rfl
  have hout : exec (.chkAdd b off len) s = _ := State.configured_some hc
  rw [hout, hsize]
  split
  · next hlong => exact (State.check_neg hlong.not_ge).trans (State.raise_refuses rfl)
  · next hfit =>
    have hfit : off.toNat + len.toNat ≤ b.size := Nat.not_lt.mp hfit
    rw [State.check_pos hfit, State.load_inside hfit, State.addToSection_completes]

/-- Settles O43: the two checks in turn, and then the octets of the segment that the body holds. -/
theorem chkAddElement : Obligations.ChkAddElement := by
  intro c s hc
  have hout : exec .chkAddElement s = _ := State.configured_some hc
  refine ⟨fun hinvalid => ?_, fun hvalid htype => ?_, fun hvalid htype nof nos seg hbody => ?_⟩
  · exact hout.trans ((State.check_neg (by simp [hinvalid])).trans (State.raise_refuses rfl))
  · rw [State.check_pos hvalid] at hout
    exact hout.trans ((State.check_neg htype).trans (State.raise_refuses rfl))
  · rw [State.check_pos hvalid, State.check_pos (show _ = TypeId.fSgNa1.code from htype), hbody] at hout
    exact hout.trans (s.addToSection_completes seg)

/-! ### CHK_CHECK_SECTION and CHK_CHECK_FILE (R475, R477) -/

/-- Settles O44: one check each; that of the section is made with the section's sum already 0. -/
theorem chkChecks : Obligations.ChkChecks := by
  intro c s chs hc
  have hsection : exec (.chkCheckSection chs) s = _ := State.configured_some hc
  have hfile : exec (.chkCheckFile chs) s = _ := State.configured_some hc
  rw [State.check_eq_ite rfl] at hsection hfile
  rw [State.closeSection_completes] at hsection
  exact ⟨hsection, hfile⟩

end Sys2Proof.Machine
end

section
/-! ## FAULTED and refusals (60_exceptions.md R501 to R503) -/

namespace Sys2Proof.Machine

/-! ### A fatal status (R502, R503) -/

theorem Status.fatal_of_code {e : Status} (h : e.code ∈ [0x10#8, 0x11#8, 0x12#8, 0x13#8]) : e.fatal = true := by
  cases e with
  | framingError | sequenceError | windowError | stateError => rfl
  | _ => exact absurd h (by decide)

/-- Only a raise ends with a fatal status: every frame that is accepted, and every other refusal, has another one. -/
theorem ApduEffect.eq_faulted {s u : State} {e : Status} (h : ApduEffect s u e) (hf : e.fatal = true) :
    u = { s with apci.state := .faulted } := by
  cases h with
  | faulted _ _ => rfl
  | unchanged hnot => cases hnot.symm.trans hf
  | acceptedI _ _ _ | acceptedS _ _ | acceptedU _ _ | unexpectedU _ => cases hf

/-! ### The APCI unit in FAULTED (R503) -/

section
variable {s : State} {k : Config → Out}

/-- The commands of the APCI unit but APCI_RESET begin with these two checks (46_apci.md R417, R426 to R428). -/
theorem State.refuses_of_faulted {c : Config} (hc : s.config = some c) (hs : s.apci.state = .faulted) :
    (s.configured fun c => s.check (s.apci.state ≠ .faulted) .apciFaulted 0#16 (k c)) = refusal s 0x15#8 0#16 := by
  rw [State.configured_some hc, State.check_neg (not_not.mpr hs), State.raise_refuses rfl]
  rfl

/-- In FAULTED the two checks write nothing, whichever of them fails. -/
theorem State.answers_of_faulted (hs : s.apci.state = .faulted) :
    Answers (s.configured fun c => s.check (s.apci.state ≠ .faulted) .apciFaulted 0#16 (k c)) fun u _ =>
      u.apci = s.apci :=
  .configured rfl fun _ _ => .check rfl rfl fun hstate => absurd hs hstate

end

/-- A row of the APDU formats delivers its frame, and APCI_RECEIVE then refuses it. -/
theorem exec_apci_of_faulted {i : Instr} {s : State} (hi : i.space = .apci) (hs : s.apci.state = .faulted) :
    Answers (exec i s) fun u _ => u.apci = s.apci := by
  obtain ⟨ctrl1, ctrl2, ctrl3, ctrl4, tail, hrow, _⟩ := exec_apci hi
  rw [hrow]
  exact .deliver (List.cons_ne_nil _ _) fun _ => State.answers_of_faulted (s := s.written .rxbuf 0 _) hs

/-- APCI_RECEIVE, the APCI_SEND_* and the rows of the APDU formats. -/
def UsesConnection (i : Instr) : Prop :=
  i.space = .apci ∨ (∃ len, i = .apciReceive len) ∨ (∃ tag, i = .apciSendI tag) ∨ i = .apciSendS ∨
    ∃ fn, i = .apciSendU fn

theorem UsesConnection.answers_of_faulted {i : Instr} {s : State} (hi : UsesConnection i)
    (hs : s.apci.state = .faulted) : Answers (exec i s) fun u _ => u.apci = s.apci := by
  rcases hi with hi | ⟨_, rfl⟩ | ⟨_, rfl⟩ | rfl | ⟨_, rfl⟩
  · exact exec_apci_of_faulted hi hs
  all_goals exact State.answers_of_faulted hs

/-- What uses no connection and starts none leaves the unit as it is. -/
theorem Effect.apci_eq {s u : State} {i : Instr} {e : Status} (h : Effect s i u e) (hi : ¬ UsesConnection i)
    (hreset : ∀ cfg, i ≠ .reset cfg) (hnew : i ≠ .apciReset) : u.apci = s.apci := by
  cases h with
  | reset _ _ => exact absurd rfl (hreset _)
  | reconnected _ => exact absurd rfl hnew
  | apciReceive _ | sentI _ _ _ _ | sentS _ _ _ | sentU _ _ _ _ => exact absurd (by simp [UsesConnection]) hi
  | apduRow hspace _ _ _ => exact absurd (.inl hspace) hi
  | addIo h | typeRow _ h | ft12Decode h => rw [h.frame]
  | frameRow _ _ _ h => rw [h.frame]; rfl
  | _ => rfl

/-- Settles O38: a fatal status is a raise, and FAULTED fails the check that stands before each command of the unit. -/
theorem faultedIsSticky : Obligations.FaultedIsSticky := by
  refine ⟨fun s t len h hcode => ?fatal, fun c s hc hs => ?refused, fun i s t h hs hreset hnew => ?kept⟩
  case fatal =>
    obtain ⟨u, e, info, heff, rfl⟩ := receiveApdu_answers len s t h
    rw [heff.eq_faulted (Status.fatal_of_code hcode)]
    rfl
  case refused =>
    exact ⟨fun _ => State.refuses_of_faulted hc hs, fun _ => State.refuses_of_faulted hc hs,
      State.refuses_of_faulted hc hs, fun _ => State.refuses_of_faulted hc hs⟩
  case kept =>
    have hkept : Answers (exec i s) fun u _ => u.apci = s.apci := by
      by_cases hi : UsesConnection i
      · exact hi.answers_of_faulted hs
      · exact (exec_answers i s).mono fun _ _ heff => heff.apci_eq hi hreset hnew
    obtain ⟨u, e, info, hu, rfl⟩ := hkept t h
    exact hu

/-! ### What a refused command leaves (R501, 00_scope.md R24) -/

/-- The states that a refused instruction leaves, but for the two status registers: with what its rule clears on failure,
and unchanged for every other instruction. -/
inductive RefusedState (s : State) : Instr → State → Prop
  | unchanged {i : Instr} : RefusedState s i s
  | asduDecode {off len : BitVec 16} :
      RefusedState s (.asduDecode off len) { s with elem.valid := false, view.valid := false }
  | asduGetElement {idx : Byte} : RefusedState s (.asduGetElement idx) { s with elem.valid := false }
  | ft12Decode {len : BitVec 16} : RefusedState s (.ft12Decode len) { s with link.valid := false }
  | chkCheckSection {chs : Byte} : RefusedState s (.chkCheckSection chs) { s with chk.sect := 0#8 }
  | apciReceive {len : BitVec 16} : RefusedState s (.apciReceive len) { s with apci.state := .faulted }

/-- The ways a command ends: with OK or a warning in some state, or refused. -/
inductive Ending (s : State) : Instr → State → Status → Prop
  | ok {i : Instr} {u : State} : Ending s i u .ok
  | ioaNotZero {i : Instr} {u : State} : Ending s i u .ioaNotZero
  | uUnexpected {len : BitVec 16} {u : State} : Ending s (.apciReceive len) u .uUnexpected
  | unknownTypeId {off len : BitVec 16} {u : State} : Ending s (.asduDecode off len) u .unknownTypeId
  | refused {i : Instr} {u : State} {e : Status} (h : RefusedState s i u) : Ending s i u e

section
variable {s u : State} {e : Status}

theorem Ending.unchanged {i : Instr} : Ending s i s e := .refused .unchanged

theorem ObjectEffect.ending {i : Instr} (h : ObjectEffect s u e) : Ending s i u e := by
  cases h with
  | unchanged _ => exact .unchanged
  | added _ _ _ _ _ => exact .ok

theorem FrameEffect.ending {len : BitVec 16} (h : FrameEffect s u e) : Ending s (.ft12Decode len) u e := by
  cases h with
  | unchanged => exact .unchanged
  | invalid _ => exact .refused .ft12Decode
  | decoded _ _ _ _ _ _ _ => exact .ok

theorem ApduEffect.ending {len : BitVec 16} (h : ApduEffect s u e) : Ending s (.apciReceive len) u e := by
  cases h with
  | unchanged _ => exact .unchanged
  | faulted _ _ => exact .refused .apciReceive
  | acceptedI _ _ _ | acceptedS _ _ | acceptedU _ _ => exact .ok
  | unexpectedU _ => exact .uUnexpected

end

section
variable (s : State)

theorem execReset_ending (cfg : ConfigOperand) : Answers (execReset cfg s) (Ending s (.reset cfg)) := by
  unfold execReset
  split
  · exact .raise rfl .unchanged
  · exact .check rfl .unchanged fun _ => .finish .ok

theorem execAsduBegin_ending (sq t pn : Bool) (cot oa : Byte) (ca : BitVec 16) :
    Answers (execAsduBegin sq t pn cot oa ca s) (Ending s (.asduBegin sq t pn cot oa ca)) :=
  .configured .unchanged fun _ _ =>
  .check rfl .unchanged fun _ => .check rfl .unchanged fun _ => .store fun _ => .finish .ok

theorem execAsduSetRaw_ending (type count : Byte) (data : List Byte) :
    Answers (execAsduSetRaw type count data s) (Ending s (.asduSetRaw type count data)) :=
  .configured .unchanged fun _ _ =>
  .check rfl .unchanged fun _ => .check rfl .unchanged fun _ => .check rfl .unchanged fun _ =>
  .check rfl .unchanged fun _ => .store fun _ => .store fun _ => .finish .ok

theorem execAsduEncode_ending : Answers (execAsduEncode s) (Ending s .asduEncode) :=
  .configured .unchanged fun _ _ => .check rfl .unchanged fun _ => .check rfl .unchanged fun _ => .finish .ok

theorem execAsduDecode_ending (off len : BitVec 16) :
    Answers (execAsduDecode off len s) (Ending s (.asduDecode off len)) := by
  refine .configured .unchanged fun c _ => .check rfl (.refused .asduDecode) fun _ => .load fun _ => ?_
  split
  · exact .raise rfl (.refused .asduDecode)
  · exact .raise rfl .unknownTypeId
  · exact .finish .ok

theorem deliverElement_ending (idx : Byte) (io : IO) :
    Answers (deliverElement idx io s) (Ending s (.asduGetElement idx)) := by
  unfold deliverElement
  split
  · exact .raise rfl .ioaNotZero
  · exact .finish .ok

theorem readElement_ending (c : Config) (psize : PSize) (idx : Byte) :
    Answers (readElement c psize idx s) (Ending s (.asduGetElement idx)) := by
  cases psize with
  | fixed size =>
    simp only [readElement]
    split
    all_goals exact .load fun _ => .load fun _ => deliverElement_ending s idx _
  | _ =>
    exact seekSegment_answers
      (fun _ => .load fun _ => .load fun _ => .load fun _ => deliverElement_ending s idx _) _ _

theorem execAsduGetElement_ending (idx : Byte) :
    Answers (execAsduGetElement idx s) (Ending s (.asduGetElement idx)) := by
  refine .configured .unchanged fun c _ => .check rfl (.refused .asduGetElement) fun _ =>
    .check rfl (.refused .asduGetElement) fun _ => .check rfl (.refused .asduGetElement) fun _ => ?_
  split
  · exact .raise rfl (.refused .asduGetElement)
  · exact readElement_ending s c _ idx

theorem execAsduRewriteCot_ending (cot : Byte) (pn : Bool) :
    Answers (execAsduRewriteCot cot pn s) (Ending s (.asduRewriteCot cot pn)) :=
  .configured .unchanged fun _ _ =>
  .check rfl .unchanged fun _ => .check rfl .unchanged fun _ => .check rfl .unchanged fun _ =>
  .load fun _ => .store fun _ => .store fun _ => .finish .ok

theorem execFt12EncFixed_ending (ctl : Byte) (a : BitVec 16) :
    Answers (execFt12EncFixed ctl a s) (Ending s (.ft12EncFixed ctl a)) :=
  .configured .unchanged fun _ _ => .check rfl .unchanged fun _ => .send fun _ => .finish .ok

theorem execFt12EncVar_ending (ctl : Byte) (a : BitVec 16) :
    Answers (execFt12EncVar ctl a s) (Ending s (.ft12EncVar ctl a)) :=
  .configured .unchanged fun _ _ =>
  .check rfl .unchanged fun _ => .check rfl .unchanged fun _ => .check rfl .unchanged fun _ =>
  .load fun _ => .send fun _ => .finish .ok

theorem execApciSendI_ending (tag : Tag) : Answers (execApciSendI tag s) (Ending s (.apciSendI tag)) :=
  .configured .unchanged fun _ _ =>
  .check rfl .unchanged fun _ => .check rfl .unchanged fun _ => .check rfl .unchanged fun _ =>
  .check rfl .unchanged fun _ => .check rfl .unchanged fun _ => .load fun _ => .send fun _ => .finish .ok

theorem execApciSendS_ending : Answers (execApciSendS s) (Ending s .apciSendS) :=
  .configured .unchanged fun _ _ =>
  .check rfl .unchanged fun _ => .check rfl .unchanged fun _ => .send fun _ => .finish .ok

theorem execApciSendU_ending (fn : Ufn) : Answers (execApciSendU fn s) (Ending s (.apciSendU fn)) := by
  refine .configured .unchanged fun c _ => .check rfl .unchanged fun _ => ?_
  split
  · exact .raise rfl .unchanged
  · exact .send fun _ => .finish .ok

theorem execChkAdd_ending (buf : Buf) (off len : BitVec 16) :
    Answers (execChkAdd buf off len s) (Ending s (.chkAdd buf off len)) :=
  .configured .unchanged fun _ _ => .check rfl .unchanged fun _ => .load fun _ => .finish .ok

theorem execChkAddElement_ending : Answers (execChkAddElement s) (Ending s .chkAddElement) :=
  .configured .unchanged fun _ _ => .check rfl .unchanged fun _ => .check rfl .unchanged fun _ => .finish .ok

theorem execChkCheckSection_ending (chs : Byte) :
    Answers (execChkCheckSection chs s) (Ending s (.chkCheckSection chs)) :=
  .configured .unchanged fun _ _ => .check rfl (.refused .chkCheckSection) fun _ => .finish .ok

theorem execChkCheckFile_ending (chs : Byte) : Answers (execChkCheckFile chs s) (Ending s (.chkCheckFile chs)) :=
  .configured .unchanged fun _ _ => .check rfl .unchanged fun _ => .finish .ok

/-- Every command, and every type row, ends in one of these ways. -/
theorem exec_ending {i : Instr} (hi : i.space = .command ∨ i.space = .asduType) :
    Answers (exec i s) (Ending s i) := by
  rcases hi with hi | hi
  case inr =>
    obtain ⟨type, ioa, body, hrow⟩ := exec_asduType hi
    rw [hrow]
    exact (addObject_answers _ _ _ s).mono fun _ _ h => h.ending
  cases i with
  | nop | apciReset | chkResetFile | chkBeginSection | chkCloseSection =>
    exact .configured .unchanged fun _ _ => .finish .ok
  | reset cfg => exact execReset_ending s cfg
  | asduBegin sq t pn cot oa ca => exact execAsduBegin_ending s sq t pn cot oa ca
  | asduAddIo io => exact (addObject_answers _ _ _ s).mono fun _ _ h => h.ending
  | asduSetRaw type count data => exact execAsduSetRaw_ending s type count data
  | asduEncode => exact execAsduEncode_ending s
  | asduDecode off len => exact execAsduDecode_ending s off len
  | asduGetElement idx => exact execAsduGetElement_ending s idx
  | asduRewriteCot cot pn => exact execAsduRewriteCot_ending s cot pn
  | ft12EncFixed ctl a => exact execFt12EncFixed_ending s ctl a
  | ft12EncVar ctl a => exact execFt12EncVar_ending s ctl a
  | ft12EncSingle => exact .configured .unchanged fun _ _ => .send fun _ => .finish .ok
  | ft12Decode len => exact (decodeFrame_answers len s).mono fun _ _ h => h.ending
  | apciReceive len => exact (receiveApdu_answers len s).mono fun _ _ h => h.ending
  | apciSendI tag => exact execApciSendI_ending s tag
  | apciSendS => exact execApciSendS_ending s
  | apciSendU fn => exact execApciSendU_ending s fn
  | chkAdd buf off len => exact execChkAdd_ending s buf off len
  | chkAddElement => exact execChkAddElement_ending s
  | chkCheckSection chs => exact execChkCheckSection_ending s chs
  | chkCheckFile chs => exact execChkCheckFile_ending s chs
  | _ => cases hi

end

/-- Settles O48: the statuses that are excluded are those of the other endings, and a refused state shows what it cleared. -/
theorem refusalChangesNothing : Obligations.RefusalChangesNothing := by
  intro i s t h hi hok hzero hunexpected hunknown
  obtain ⟨u, e, info, hend, rfl⟩ := exec_ending s hi t h
  cases hend with
  | ok => exact absurd rfl hok
  | ioaNotZero => exact absurd rfl hzero
  | uUnexpected => exact absurd ⟨rfl, _, rfl⟩ hunexpected
  | unknownTypeId => exact absurd ⟨rfl, _, _, rfl⟩ hunknown
  | refused hrefused =>
    cases hrefused with
    | unchanged => exact ⟨rfl, .inl rfl, .inl rfl, .inl rfl, .inl rfl, .inl rfl⟩
    | asduDecode =>
      exact ⟨rfl, .inr ⟨rfl, _, _, rfl⟩, .inr ⟨rfl, .inl ⟨_, _, rfl⟩⟩, .inl rfl, .inl rfl, .inl rfl⟩
    | asduGetElement => exact ⟨rfl, .inl rfl, .inr ⟨rfl, .inr ⟨_, rfl⟩⟩, .inl rfl, .inl rfl, .inl rfl⟩
    | ft12Decode => exact ⟨rfl, .inl rfl, .inl rfl, .inr ⟨rfl, _, rfl⟩, .inl rfl, .inl rfl⟩
    | chkCheckSection => exact ⟨rfl, .inl rfl, .inl rfl, .inl rfl, .inr ⟨rfl, _, rfl⟩, .inl rfl⟩
    | apciReceive => exact ⟨rfl, .inl rfl, .inl rfl, .inl rfl, .inl rfl, .inr ⟨rfl, _, rfl⟩⟩

end Sys2Proof.Machine
end

section
/-! ## Every instruction answers (60_exceptions.md R501, R507; 20_memory.md R71)

Only an octet outside a buffer stops a command. Each rule of `HasNext` for a read or a write asks that it lies in the buffer,
and the invariant, the checks before the access or the form of the instruction says so. -/

namespace Sys2Proof.Machine

/-! ### Outcomes with a next state -/

/-- The outcome is a next state: no fault, and no refusal by the model. -/
def HasNext (out : Out) : Prop := ∃ t, out = .next t

section
variable {s : State} {k : Out}

theorem HasNext.finish : HasNext s.finish := ⟨_, rfl⟩

/-- A raised status is an answer. -/
theorem HasNext.raise {e : Status} {info : BitVec 16} : HasNext (s.raise e info) := ⟨_, State.raise_eq s e info⟩

theorem HasNext.check {p : Prop} [Decidable p] {e : Status} {info : BitVec 16} (hk : p → HasNext k) :
    HasNext (s.check p e info k) := by
  by_cases hp : p
  · rw [State.check_pos hp]
    exact hk hp
  · rw [State.check_neg hp]
    exact .raise

theorem HasNext.configured {k : Config → Out} (hk : ∀ c, s.config = some c → HasNext (k c)) :
    HasNext (s.configured k) := by
  cases hc : s.config with
  | none => exact ⟨_, State.configured_none hc⟩
  | some c =>
    rw [State.configured_some hc]
    exact hk c hc

theorem HasNext.load {b : Buf} {a n : Nat} {k : List Byte → Out} (hfit : a + n ≤ b.size)
    (hk : HasNext (k (Mem.read (s.buf b) a n))) : HasNext (s.load b a n k) := by
  rwa [State.load_inside hfit]

theorem HasNext.store {b : Buf} {a : Nat} {os : List Byte} {k : State → Out} (hfit : a + os.length ≤ b.size)
    (hk : HasNext (k (s.setBuf b (Mem.write (s.buf b) a os)))) : HasNext (s.store b a os k) := by
  rwa [State.store_inside hfit]

theorem HasNext.send {frame : List Byte} {k : State → Out} (hfit : frame.length ≤ Buf.txbuf.size)
    (hk : HasNext (k (s.transmitted frame))) : HasNext (s.send frame k) := by
  rwa [State.send_inside hfit]

theorem HasNext.deliver {frame : List Byte} {k : State → Out} (hne : frame ≠ []) (hfit : frame.length ≤ Buf.rxbuf.size)
    (hk : HasNext (k (s.written .rxbuf 0 frame))) : HasNext (s.deliver frame k) := by
  rwa [State.deliver_eq hne hfit]

end

/-! ### System commands and the checksum unit -/

section
variable (s : State)

theorem execReset_hasNext (cfg : ConfigOperand) : HasNext (execReset cfg s) := by
  unfold execReset
  split
  · exact .raise
  · exact .check fun _ => .finish

theorem execChkAdd_hasNext (buf : Buf) (off len : BitVec 16) : HasNext (execChkAdd buf off len s) :=
  .configured fun _ _ => .check fun hfit => .load hfit .finish

end

/-! ### Builder (44_asdu_codec.md R320 to R323) -/

section
variable {s : State} (hconfig : s.ConfigOk)
include hconfig

theorem execAsduBegin_hasNext (sq t pn : Bool) (cot oa : Byte) (ca : BitVec 16) :
    HasNext (execAsduBegin sq t pn cot oa ca s) := by
  refine .configured fun c hc => .check fun _ => .check fun _ => .store ?_ .finish
  obtain ⟨_, _, _, _, _, _, hhdr, hmax⟩ := Config.valid_lengths (hconfig c hc)
  rw [length_beginHeader c sq t pn cot oa ca (hconfig c hc), Buf.size]
  omega

/-- An object ends within MAX_ASDU_LEN, and so within ABUF. -/
theorem addObject_hasNext (type : Byte) (ioa : Nat) (body : Option Body) : HasNext (addObject type ioa body s) := by
  refine .configured fun c hc => .check fun _ => .check fun _ => .check fun _ => .check fun _ => .check fun _ => ?_
  cases body with
  | none => exact .raise
  | some body =>
    refine .check fun _ => .check fun _ => .check fun _ => .check fun _ => .check fun hlen => ?_
    obtain ⟨_, _, _, _, _, _, _, hmax⟩ := Config.valid_lengths (hconfig c hc)
    exact ⟨_, storeElement_inside (hlen.trans hmax)⟩

theorem execAsduSetRaw_hasNext (type count : Byte) (data : List Byte) : HasNext (execAsduSetRaw type count data s) := by
  refine .configured fun c hc => .check fun _ => .check fun _ => .check fun _ => .check fun hlen => ?_
  obtain ⟨_, _, _, _, _, _, _, hmax⟩ := Config.valid_lengths (hconfig c hc)
  exact .store (by simp [Buf.size]) (.store (hlen.trans hmax) .finish)

end

theorem execAsduEncode_hasNext (s : State) : HasNext (execAsduEncode s) :=
  .configured fun _ _ => .check fun _ => .check fun _ => .finish

/-! ### View (44_asdu_codec.md R324 to R326) -/

theorem execAsduDecode_hasNext (off len : BitVec 16) (s : State) : HasNext (execAsduDecode off len s) := by
  refine .configured fun c _ => .check fun hfit => .load hfit ?_
  split
  · exact .raise
  · exact .raise
  · exact .finish

/-- What an accepted parse says of the elements: their size, and the octets that they need. -/
theorem needOf_of_parseAsdu {c : Config} {os : List Byte} {h : Header} {psize : PSize} {need : Nat}
    (hparse : parseAsdu c os = .good h psize need) :
    psizeOf? c h.type = some psize ∧ needOf c h psize os = .ok need := by
  simp only [parseAsdu] at hparse
  repeat' split at hparse
  all_goals cases hparse
  exact ⟨‹_›, ‹_›⟩

/-- The first element of a walk that ends well is whole, and the walk goes on behind it. -/
theorem walkSegments_succ {ioaLen n p q : Nat} {os : List Byte} (h : walkSegments ioaLen os (n + 1) p = .ok q) :
    p + ioaLen + 4 + (octet os (p + ioaLen + 3)).toNat ≤ os.length ∧
      walkSegments ioaLen os n (p + ioaLen + 4 + (octet os (p + ioaLen + 3)).toNat) = .ok q := by
  simp only [walkSegments] at h
  split at h
  · cases h
  · split at h
    · cases h
    · next hfit => exact ⟨Nat.not_lt.mp hfit, h⟩

/-- An octet of a view, read by itself. -/
theorem octet_read_view {m : Mem} {a off len i : Nat} (ha : a = off + i) (hi : i < len) :
    octet (Mem.read m a 1) 0 = octet (Mem.read m off len) i := by
  rw [ha, Mem.octet_read m _ 1 0 Nat.one_pos, Mem.octet_read m off len i hi, Nat.add_zero]

/-- The search for an element goes the way of the walk that accepted the view, and finds a whole element. -/
theorem seekSegment_hasNext {ioaLen off len q : Nat} {s : State} {k : Nat → Out}
    (hfit : off + len ≤ Buf.rxbuf.size)
    (hk : ∀ p, p + ioaLen + 4 + (octet (Mem.read s.rxbuf off len) (p + ioaLen + 3)).toNat ≤ len →
      HasNext (k (off + p))) :
    ∀ {idx count p : Nat}, idx < count → walkSegments ioaLen (Mem.read s.rxbuf off len) count p = .ok q →
      HasNext (seekSegment ioaLen s k idx (off + p))
  | 0, count + 1, p, _, hwalk => by
    obtain ⟨hwhole, -⟩ := walkSegments_succ hwalk
    rw [Mem.length_read] at hwhole
    exact hk p hwhole
  | idx + 1, count + 1, p, hidx, hwalk => by
    obtain ⟨hwhole, hwalk⟩ := walkSegments_succ hwalk
    rw [Mem.length_read] at hwhole
    refine .load (by omega) ?_
    have hlos : octet (Mem.read s.rxbuf (off + p + ioaLen + 3) 1) 0 =
        octet (Mem.read s.rxbuf off len) (p + ioaLen + 3) := octet_read_view (by omega) (by omega)
    rw [State.buf_rxbuf, hlos]
    have ih := seekSegment_hasNext hfit hk (Nat.lt_of_succ_lt_succ hidx) hwalk
    simpa only [Nat.add_assoc] using ih

theorem deliverElement_hasNext (idx : Byte) (io : IO) (s : State) : HasNext (deliverElement idx io s) := by
  unfold deliverElement
  split
  · exact .raise
  · exact .finish

/-- In a sequence the one address and the element's octets lie in the view, and else the address with its element. -/
theorem element_fits_fixedNeed {c : Config} {h : Header} {size : Byte} {idx : Nat} (hidx : idx < h.count.toNat) :
    if h.sq = true then c.hdrLen + c.ioaLen + idx * size.toNat + size.toNat ≤ fixedNeed c h size
    else c.hdrLen + idx * (c.ioaLen + size.toNat) + c.ioaLen + size.toNat ≤ fixedNeed c h size := by
  have hmul (n : Nat) : idx * n + n ≤ h.count.toNat * n := by
    rw [← Nat.succ_mul]
    exact Nat.mul_le_mul_right n hidx
  unfold fixedNeed
  split
  · rw [if_pos (Nat.zero_lt_of_lt hidx)]
    have := hmul size.toNat
    omega
  · have := hmul (c.ioaLen + size.toNat)
    omega

theorem readElement_hasNext {c : Config} {s : State} {psize : PSize} {idx : Byte}
    (hfit : s.view.off.toNat + s.view.len.toNat ≤ Buf.rxbuf.size)
    (hneed : needOf c s.view.hdr psize (Mem.read s.rxbuf s.view.off.toNat s.view.len.toNat) = .ok s.view.len.toNat)
    (hidx : idx.toNat < s.view.hdr.count.toNat) : HasNext (readElement c psize idx s) := by
  cases psize with
  | fixed size =>
    have helement := element_fits_fixedNeed (c := c) (size := size) hidx
    rw [needOf_fixed] at hneed
    split at hneed
    case isFalse => cases hneed
    rw [Except.ok.inj hneed] at helement
    simp only [readElement]
    split at helement
    · next hsq =>
      rw [if_pos hsq]
      exact .load (by omega) (.load (by omega) (deliverElement_hasNext _ _ s))
    · next hsq =>
      rw [if_neg hsq]
      exact .load (by omega) (.load (by omega) (deliverElement_hasNext _ _ s))
  | _ =>
    rw [needOf_variable] at hneed
    split at hneed
    · cases hneed
    refine seekSegment_hasNext hfit (fun p hwhole => ?_) hidx hneed
    have hlos : octet (Mem.read s.rxbuf (s.view.off.toNat + p + c.ioaLen + 3) 1) 0 =
        octet (Mem.read s.rxbuf s.view.off.toNat s.view.len.toNat) (p + c.ioaLen + 3) :=
      octet_read_view (by omega) (by omega)
    refine .load (by omega) (.load (by omega) (.load ?_ (deliverElement_hasNext _ _ s)))
    rw [State.buf_rxbuf, hlos]
    omega

theorem execAsduGetElement_hasNext {s : State} (hview : ∀ c, s.config = some c → viewOk c s.view s.rxbuf)
    (idx : Byte) : HasNext (execAsduGetElement idx s) := by
  refine .configured fun c hc => .check fun hvalid => .check fun hknown => .check fun hidx => ?_
  obtain ⟨hfit, hparse⟩ := hview c hc hvalid
  rw [if_pos hknown] at hparse
  obtain ⟨hpsize, hneed⟩ := needOf_of_parseAsdu hparse
  rw [hpsize]
  exact readElement_hasNext hfit hneed hidx

theorem execAsduRewriteCot_hasNext {s : State} (hview : ∀ c, s.config = some c → viewOk c s.view s.rxbuf)
    (cot : Byte) (pn : Bool) : HasNext (execAsduRewriteCot cot pn s) := by
  refine .configured fun c hc => .check fun hvalid => .check fun _ => .check fun hlen => ?_
  obtain ⟨hfit, -⟩ := hview c hc hvalid
  refine .load hfit (.store ?_ (.store (by simp [Buf.size]) .finish))
  rwa [Mem.length_read, Nat.zero_add]

/-! ### FT1.2 unit (45_ft12_link.md R360 to R365) -/

section
variable {s : State} (hconfig : s.ConfigOk)
include hconfig

theorem execFt12EncFixed_hasNext (ctl : Byte) (a : BitVec 16) : HasNext (execFt12EncFixed ctl a s) := by
  refine .configured fun c hc => .check fun _ => .send ?_ .finish
  have haddr := Config.valid_linkAddrLen (hconfig c hc)
  rw [length_fixedFrame, leOctets_length, Buf.size]
  omega

theorem execFt12EncVar_hasNext (ctl : Byte) (a : BitVec 16) : HasNext (execFt12EncVar ctl a s) := by
  refine .configured fun c hc => .check fun _ => .check fun _ => .check fun hlen => ?_
  have haddr := Config.valid_linkAddrLen (hconfig c hc)
  refine .load (by rw [Buf.size]; omega) (.send ?_ .finish)
  rw [length_variableFrame, leOctets_length, Mem.length_read, Buf.size]
  omega

end

theorem takeFrame_hasNext (c : Config) (os : List Byte) (s : State) : HasNext (takeFrame c os s) := by
  unfold takeFrame
  split
  case h_1 | h_2 => exact .raise
  all_goals exact .finish

theorem decodeFrame_hasNext (len : BitVec 16) (s : State) : HasNext (decodeFrame len s) :=
  .configured fun c _ => .check fun hlen => .load (by rwa [Nat.zero_add]) (takeFrame_hasNext c _ s)

theorem receiveFrame_hasNext {start : Byte} {tail : List Byte} (h : frameTailFits tail = true) (s : State) :
    HasNext (receiveFrame (start :: tail) s) :=
  .deliver (List.cons_ne_nil _ _) (Nat.succ_le_succ (of_decide_eq_true h)) (decodeFrame_hasNext _ _)

theorem receiveFixed_hasNext {ctl : Byte} {addr : List Byte} (h : addrFits addr = true) (s : State) :
    HasNext (receiveFixed ctl addr s) := by
  refine .deliver (frame := fixedFrame ctl addr) (List.cons_ne_nil _ _) ?_ (decodeFrame_hasNext _ _)
  have haddr : addr.length ≤ 2 := of_decide_eq_true h
  rw [length_fixedFrame, Buf.size]
  omega

theorem receiveVariable_hasNext {ctl : Byte} {addr ud : List Byte} (h : udFits addr ud = true) (s : State) :
    HasNext (receiveVariable ctl addr ud s) := by
  refine .deliver (frame := variableFrame ctl addr ud) (List.cons_ne_nil _ _) ?_ (decodeFrame_hasNext _ _)
  have hud : 1 + addr.length + ud.length ≤ 255 := of_decide_eq_true (Bool.and_eq_true_iff.mp h).2
  rw [length_variableFrame, Buf.size]
  omega

/-! ### APCI unit (46_apci.md R417 to R429) -/

theorem receiveControl_hasNext (c : Config) (ctrl1 : Byte) (nr : SeqNo) (s : State) :
    HasNext (receiveControl c ctrl1 nr s) := by
  unfold receiveControl
  split
  · exact .check fun _ => .check fun _ => .finish
  · unfold receiveU
    split
    · exact .finish
    · exact .raise
  · exact .raise

theorem takeApdu_hasNext (c : Config) (os : List Byte) (s : State) : HasNext (takeApdu c os s) := by
  rw [takeApdu_eq]
  refine .check fun _ => .check fun _ => .check fun _ => ?_
  unfold receiveFramed
  split
  · exact .check fun _ => .check fun _ => .check fun _ => .finish
  · exact .check fun _ => receiveControl_hasNext c _ _ s

theorem receiveApdu_hasNext (len : BitVec 16) (s : State) : HasNext (receiveApdu len s) :=
  .configured fun c _ => .check fun _ => .check fun hlen => .load (by rwa [Nat.zero_add]) (takeApdu_hasNext c _ s)

theorem receiveFormat_hasNext {ctrl1 ctrl2 ctrl3 ctrl4 : Byte} {tail : List Byte} (h : tailFits tail = true)
    (s : State) : HasNext (receiveFormat ctrl1 ctrl2 ctrl3 ctrl4 tail s) := by
  refine .deliver (List.cons_ne_nil _ _) ?_ (receiveApdu_hasNext _ _)
  exact (Nat.add_le_add_right (of_decide_eq_true h : tail.length ≤ 251) 6).trans (by decide)

section
variable (s : State)

theorem execApciSendI_hasNext (tag : Tag) : HasNext (execApciSendI tag s) := by
  refine .configured fun c _ => .check fun _ => .check fun _ => .check fun _ => .check fun _ => .check fun hlen => ?_
  refine .load (by rw [Buf.size]; omega) (.send ?_ .finish)
  rw [length_iFrameOctets, Mem.length_read, Buf.size]
  omega

theorem execApciSendS_hasNext : HasNext (execApciSendS s) :=
  .configured fun _ _ => .check fun _ => .check fun _ => .send (Nat.le_of_ble_eq_true rfl) .finish

theorem execApciSendU_hasNext (fn : Ufn) : HasNext (execApciSendU fn s) := by
  refine .configured fun c _ => .check fun _ => ?_
  split
  · exact .raise
  · exact .send (Nat.le_of_ble_eq_true rfl) .finish

end

/-! ### Every space -/

section
variable {i : Instr} {s : State}

theorem exec_hasNext_of_command (hi : i.space = .command) (hs : s.Inv) : HasNext (exec i s) := by
  cases i with
  | nop | apciReset | chkResetFile | chkBeginSection | chkCloseSection => exact .configured fun _ _ => .finish
  | reset cfg => exact execReset_hasNext s cfg
  | asduBegin sq t pn cot oa ca => exact execAsduBegin_hasNext hs.config sq t pn cot oa ca
  | asduAddIo io => exact addObject_hasNext hs.config io.type io.ioa.toNat io.body.body?
  | asduSetRaw type count data => exact execAsduSetRaw_hasNext hs.config type count data
  | asduEncode => exact execAsduEncode_hasNext s
  | asduDecode off len => exact execAsduDecode_hasNext off len s
  | asduGetElement idx => exact execAsduGetElement_hasNext hs.view idx
  | asduRewriteCot cot pn => exact execAsduRewriteCot_hasNext hs.view cot pn
  | ft12EncFixed ctl a => exact execFt12EncFixed_hasNext hs.config ctl a
  | ft12EncVar ctl a => exact execFt12EncVar_hasNext hs.config ctl a
  | ft12EncSingle => exact .configured fun _ _ => .send (by decide) .finish
  | ft12Decode len => exact decodeFrame_hasNext len s
  | apciReceive len => exact receiveApdu_hasNext len s
  | apciSendI tag => exact execApciSendI_hasNext s tag
  | apciSendS => exact execApciSendS_hasNext s
  | apciSendU fn => exact execApciSendU_hasNext s fn
  | chkAdd buf off len => exact execChkAdd_hasNext s buf off len
  | chkAddElement => exact .configured fun _ _ => .check fun _ => .check fun _ => .finish
  | chkCheckSection chs | chkCheckFile chs => exact .configured fun _ _ => .check fun _ => .finish
  | _ => cases hi

theorem exec_hasNext_of_asduType (hi : i.space = .asduType) (hconfig : s.ConfigOk) : HasNext (exec i s) := by
  obtain ⟨type, ioa, body, hrow⟩ := exec_asduType hi
  rw [hrow]
  exact addObject_hasNext hconfig _ _ _

theorem exec_hasNext_of_apci (hi : i.space = .apci) (hwf : i.wf = true) : HasNext (exec i s) := by
  cases i with
  | iFrame | sFrame | uStartdtAct | uStartdtCon | uStopdtAct | uStopdtCon | uTestfrAct | uTestfrCon =>
    exact receiveFormat_hasNext hwf s
  | _ => cases hi

theorem exec_hasNext_of_ft12 (hi : i.space = .ft12) (hwf : i.wf = true) : HasNext (exec i s) := by
  cases i with
  | ft12Fixed | ft12Variable | ft12Single => exact receiveFrame_hasNext hwf s
  | _ => cases hi

theorem exec_hasNext_of_ctlUnbalanced (hi : i.space = .ctlUnbalanced) (hwf : i.wf = true) : HasNext (exec i s) := by
  cases i with
  | unbPriUserDataConfirm | unbPriUserDataNoReply | unbSecUserData => exact receiveVariable_hasNext hwf s
  | unbPriResetRemoteLink | unbPriResetUserProcess | unbPriRequestAccessDemand | unbPriRequestLinkStatus
  | unbPriRequestClass1 | unbPriRequestClass2 | unbSecAck | unbSecNackBusy | unbSecNackNoData | unbSecLinkStatus
  | unbSecLinkNotFunctioning | unbSecLinkNotImplemented => exact receiveFixed_hasNext hwf s
  | _ => cases hi

theorem exec_hasNext_of_ctlBalanced (hi : i.space = .ctlBalanced) (hwf : i.wf = true) : HasNext (exec i s) := by
  cases i with
  | balPriUserDataConfirm | balPriUserDataNoReply => exact receiveVariable_hasNext hwf s
  | balPriResetRemoteLink | balPriResetUserProcess | balPriTestLink | balPriRequestLinkStatus | balSecAck
  | balSecNackBusy | balSecLinkStatus | balSecLinkNotFunctioning | balSecLinkNotImplemented =>
    exact receiveFixed_hasNext hwf s
  | _ => cases hi

end

/-- Settles O59: commands and type rows by the invariant, and a row that is a received frame because the frame fits RXBUF. -/
theorem everyInstructionAnswers : Obligations.EveryInstructionAnswers := by
  intro i s hs hwf
  cases hsp : i.space with
  | command => exact exec_hasNext_of_command hsp hs
  | asduType => exact exec_hasNext_of_asduType hsp hs.config
  | apci => exact exec_hasNext_of_apci hsp hwf
  | ft12 => exact exec_hasNext_of_ft12 hsp hwf
  | ctlUnbalanced => exact exec_hasNext_of_ctlUnbalanced hsp hwf
  | ctlBalanced => exact exec_hasNext_of_ctlBalanced hsp hwf

/-! ### Steps (00_scope.md R5, 60_exceptions.md R507) -/

/-- What decodes is well formed, so that it answers, and an unassigned opcode of the command space is reported. -/
theorem present_hasNext {s : State} {sp : Space} {os : List Byte} {rest : List HostAction} (hs : s.Inv)
    (hinput : s.input = .present sp os :: rest) (hok : s.InputOk) : HasNext (step s) := by
  simp only [State.InputOk, hinput] at hok
  rw [step_cons hinput, takeAction, present]
  split at hok
  · next decoded hdec =>
    obtain ⟨i, left⟩ := decoded
    rw [hdec]
    exact everyInstructionAnswers i _ { hs with } (encodeDecode sp os i left hdec).1
  · next first hdec =>
    rw [hdec]
    simp only [if_pos hok]
    exact .raise
  · exact hok.elim

theorem writeBuf_hasNext {s : State} {b : Buf} {addr : BitVec 16} {os : List Byte} {rest : List HostAction}
    (hinput : s.input = .writeBuf b addr os :: rest) (hok : s.InputOk) : HasNext (step s) := by
  simp only [State.InputOk, hinput] at hok
  rw [step_cons hinput, takeAction]
  cases os with
  | nil => exact ⟨_, rfl⟩
  | cons o os => exact ⟨_, State.hostWrite_inside (List.cons_ne_nil o os) (hok.resolve_left (List.cons_ne_nil o os))⟩

/-- Settles O60, by the next action of the host. -/
theorem progress : Obligations.Progress := by
  intro s hs hok
  cases hinput : s.input with
  | nil => exact ⟨s, step_nil hinput⟩
  | cons action rest =>
    cases action with
    | present sp os => exact present_hasNext hs hinput hok
    | writeBuf b addr os => exact writeBuf_hasNext hinput hok
    | writeAsduLen v => exact ⟨_, step_cons hinput⟩
    | writeReg r v => exact ⟨_, step_cons hinput⟩

end Sys2Proof.Machine
end

section
/-! ## The CONFIG operand of RESET (70_reset_and_hazards.md R541; log entry 16) -/

namespace Sys2Proof

/-- The record that an operand stands for when its octets are values of their parameters. -/
def ConfigOperand.record (o : ConfigOperand) : Config :=
  { cotLen := o.cotLen.toNat, caLen := o.caLen.toNat, ioaLen := o.ioaLen.toNat, typeIdLen := o.typeIdLen.toNat
    maxAsduLen := o.maxAsduLen.toNat, k := o.k.toNat, w := o.w.toNat, linkAddrLen := o.linkAddrLen.toNat
    linkMode := if o.linkMode = 0#8 then .unbalanced else .balanced
    apciRole := if o.apciRole = 0#8 then .controlled else .controlling
    strictLength := if o.strictLength = 0#8 then false else true, fcsMode := .sum8, privateTypes := o.privateTypes }

/-- LINK_MODE, APCI_ROLE, STRICT_LENGTH and FCS_MODE are values of their types. -/
def ConfigOperand.Typed (o : ConfigOperand) : Prop :=
  (o.linkMode = 0#8 ∨ o.linkMode = 1#8) ∧ (o.apciRole = 0#8 ∨ o.apciRole = 1#8) ∧
    (o.strictLength = 0#8 ∨ o.strictLength = 1#8) ∧ o.fcsMode = 0#8

/-- An octet that stands for one of two values. -/
theorem eq_some_of_two_values {α : Type} {b : Byte} {x y v : α} :
    (if b = 0#8 then some x else if b = 1#8 then some y else none) = some v ↔
      (b = 0#8 ∨ b = 1#8) ∧ v = if b = 0#8 then x else y := by
  by_cases h0 : b = 0#8
  · simp [h0, eq_comm]
  · by_cases h1 : b = 1#8 <;> simp [h0, h1, eq_comm]

section
variable {o : ConfigOperand} {c : Config}

theorem ConfigOperand.config?_of_typed (h : o.Typed) : o.config? = some o.record := by
  obtain ⟨hmode, hrole, hstrict, hfcs⟩ := h
  have mode : linkModeOf? o.linkMode = some _ := eq_some_of_two_values.mpr ⟨hmode, rfl⟩
  have role : apciRoleOf? o.apciRole = some _ := eq_some_of_two_values.mpr ⟨hrole, rfl⟩
  have strict : strictLengthOf? o.strictLength = some _ := eq_some_of_two_values.mpr ⟨hstrict, rfl⟩
  have fcs : fcsModeOf? o.fcsMode = some _ := if_pos hfcs
  rw [config?, mode, role, strict, fcs]
  rfl

theorem ConfigOperand.typed_of_config? (h : o.config? = some c) : o.Typed := by
  unfold config? at h
  split at h
  · next hmode hrole hstrict hfcs =>
    exact ⟨(eq_some_of_two_values.mp hmode).1, (eq_some_of_two_values.mp hrole).1,
      (eq_some_of_two_values.mp hstrict).1, (Option.ite_none_right_eq_some.mp hfcs).1⟩
  · cases h

end

end Sys2Proof
end

section
/-! ## Reset and NOT_CONFIGURED (70_reset_and_hazards.md R540 to R544, 60_exceptions.md R504) -/

namespace Sys2Proof.Machine

/-! ### After power-on (R544) -/

/-- Settles O58: nothing is valid after power-on, and the invariants of the units ask nothing without a configuration. -/
theorem resetInv : Obligations.ResetInv where
  mem := reset_memOk
  status := ⟨.ok, rfl⟩
  config := nofun
  txLen := Nat.zero_le _
  unconfigured := fun _ => ⟨rfl, rfl, rfl, rfl, rfl, rfl⟩
  window := nofun
  builder := nofun
  view := nofun
  elem := nofun
  link := nofun
  roles := nofun

/-! ### The common check (R542, R504) -/

theorem State.configured_refuses {s : State} {k : Config → Out} (hs : s.config = none) :
    s.configured k = refusal s 0xFD#8 0#16 :=
  State.configured_none hs

/-- Settles O8: NOP is the common check and nothing else. -/
theorem nopDoesNothing : Obligations.NopDoesNothing := by
  intro s
  cases hs : s.config with
  | none => exact State.configured_refuses hs
  | some c => exact State.configured_some hs

/-- Every command but RESET, and every type row, begins with the common check (R504). -/
theorem exec_eq_configured {i : Instr} (hi : i.space = .command ∨ i.space = .asduType)
    (hreset : ∀ cfg, i ≠ .reset cfg) (s : State) : ∃ k, exec i s = s.configured k := by
  rcases hi with hi | hi
  case inr =>
    obtain ⟨type, ioa, body, hrow⟩ := exec_asduType hi
    exact ⟨_, hrow s⟩
  cases i with
  | reset cfg => exact absurd rfl (hreset cfg)
  | nop | asduBegin | asduAddIo | asduSetRaw | asduEncode | asduDecode | asduGetElement | asduRewriteCot | ft12EncFixed
  | ft12EncVar | ft12EncSingle | ft12Decode | apciReceive | apciSendI | apciSendS | apciSendU | apciReset | chkResetFile
  | chkBeginSection | chkAdd | chkAddElement | chkCheckSection | chkCloseSection | chkCheckFile => exact ⟨_, rfl⟩
  | _ => cases hi

/-! ### RESET (R541, R543) -/

theorem ofByte?_isNone_iff {b : Byte} : (TypeId.ofByte? b).isNone = true ↔ ∀ t : TypeId, t.code ≠ b := by
  rw [Option.isNone_iff_eq_none, Option.eq_none_iff_forall_ne_some]
  exact forall_congr' fun t => not_congr (TypeId.ofByte?_eq_some.trans eq_comm)

/-- An operand is in range when its octets are typed and their record is valid: the same conditions in another order. -/
theorem inRange_iff {o : ConfigOperand} : InRange o ↔ o.record.valid = true ∧ o.Typed := by
  simp only [InRange, ConfigOperand.Typed, Config.valid, ConfigOperand.record, Config.hdrLen, Bool.and_eq_true,
    Bool.or_eq_true, decide_eq_true_eq, List.all_eq_true, ofByte?_isNone_iff, BitVec.toNat_eq,
    BitVec.toNat_ofNat, Nat.reducePow, Nat.reduceMod, and_assoc, or_assoc]
  exact iff_of_eq (by ac_rfl)

section
variable {o : ConfigOperand} (s : State)

theorem execReset_of_inRange (h : InRange o) : execReset o s = completes (s.resetWith o.record) := by
  obtain ⟨hvalid, htyped⟩ := inRange_iff.mp h
  rw [execReset, ConfigOperand.config?_of_typed htyped]
  exact State.check_pos hvalid

theorem execReset_of_not_inRange (h : ¬ InRange o) : execReset o s = refusal s 0xFE#8 0#16 := by
  unfold execReset
  split
  · exact State.raise_refuses rfl
  · next c hc =>
    have htyped := ConfigOperand.typed_of_config? hc
    obtain rfl : o.record = c := Option.some.inj ((ConfigOperand.config?_of_typed htyped).symm.trans hc)
    rw [State.check_neg fun hvalid => h (inRange_iff.mpr ⟨hvalid, htyped⟩)]
    exact State.raise_refuses rfl

end

/-- Settles O9: the claim writes out `record` of an operand in range and `State.resetWith` of that. -/
theorem resetCommand : Obligations.ResetCommand := by
  refine fun s o => ⟨fun h => ?_, execReset_of_not_inRange s⟩
  have ⟨_, _, _, htype, _, _, _, _, _, _, _, _, _, hstrict, _⟩ := h
  have hrecord : o.record = { o.record with typeIdLen := 1, strictLength := decide (o.strictLength = 1#8) } := by
    rcases hstrict with hstrict | hstrict <;> simp [ConfigOperand.record, htype, hstrict]
  refine ⟨_, List.replicate o.k.toNat WinEntry.zero, Tag.zero, Element.reset.io, execReset_of_inRange s h, ?_⟩
  rw [hrecord]
  rfl

/-! ### Rows that are received frames, and NOT_CONFIGURED (R542; log entry 2) -/

/-- An operation on a delivered frame: it leaves RXBUF as it finds it, and begins with the common check. -/
structure TakesFrame (k : State → Out) : Prop where
  rxbuf : ∀ u, Answers (k u) fun v _ => v.rxbuf = u.rxbuf
  refuses : ∀ u, u.config = none → k u = refusal u 0xFD#8 0#16

theorem takesFrame_decodeFrame (len : BitVec 16) : TakesFrame (decodeFrame len) where
  rxbuf u := (decodeFrame_answers len u).mono fun _ _ h => by rw [h.frame]
  refuses _ := State.configured_refuses

theorem takesFrame_receiveApdu (len : BitVec 16) : TakesFrame (receiveApdu len) where
  rxbuf u := (receiveApdu_answers len u).mono fun _ _ h => by rw [h.frame]
  refuses _ := State.configured_refuses

/-- A row that is neither a command nor a type delivers one frame, the same in every state (log entry 2). -/
theorem exec_eq_deliver {i : Instr} (hcommand : i.space ≠ .command) (htype : i.space ≠ .asduType) :
    ∃ frame k, frame ≠ [] ∧ TakesFrame k ∧ ∀ s, exec i s = s.deliver frame k := by
  have hframe (hi : i.space = .ft12 ∨ i.space = .ctlUnbalanced ∨ i.space = .ctlBalanced) :
      ∃ frame k, frame ≠ [] ∧ TakesFrame k ∧ ∀ s, exec i s = s.deliver frame k := by
    obtain ⟨start, tail, hrow⟩ := exec_ft12 hi
    exact ⟨_, _, List.cons_ne_nil start tail, takesFrame_decodeFrame _, hrow⟩
  cases hi : i.space with
  | command => exact absurd hi hcommand
  | asduType => exact absurd hi htype
  | apci =>
    obtain ⟨_, _, _, _, _, hrow, _⟩ := exec_apci hi
    exact ⟨_, _, List.cons_ne_nil _ _, takesFrame_receiveApdu _, hrow⟩
  | ft12 => exact hframe (.inl hi)
  | ctlUnbalanced => exact hframe (.inr (.inl hi))
  | ctlBalanced => exact hframe (.inr (.inr hi))

/-- The frame of a well-formed row fits RXBUF, because the row answers after power-on. -/
theorem length_le_of_exec_eq_deliver {i : Instr} {frame : List Byte} {k : State → Out} (hwf : i.wf = true)
    (hne : frame ≠ []) (hrow : ∀ s, exec i s = s.deliver frame k) : frame.length ≤ Buf.rxbuf.size := by
  obtain ⟨t, ht⟩ := everyInstructionAnswers i State.reset resetInv hwf
  rw [hrow] at ht
  rcases State.hostWrite_next ht with ⟨hnil, _⟩ | ⟨_, hfit, _⟩
  · exact absurd hnil hne
  · rwa [Nat.zero_add] at hfit

/-- Settles O7: a command or type row begins with the common check, and a frame row reaches it once its frame is
delivered. -/
theorem notConfigured : Obligations.NotConfigured := by
  refine ⟨fun i s hs hi hreset => ?command, fun s opcode os later _ hinput hdec => ?opcode,
    fun s o _ => execReset_of_not_inRange s, fun i hcommand htype hwf => ?frame⟩
  case command =>
    obtain ⟨k, hk⟩ := exec_eq_configured hi hreset s
    exact hk.trans (State.configured_refuses hs)
  case opcode =>
    rw [step_cons hinput, takeAction, present, hdec]
    exact State.raise_refuses (e := .unknownCommand) rfl
  case frame =>
    obtain ⟨frame, k, hne, htakes, hrow⟩ := exec_eq_deliver hcommand htype
    have hfit := length_le_of_exec_eq_deliver hwf hne hrow
    refine ⟨frame, fun s hmem => ⟨s.written .rxbuf 0 frame, delivered_written frame hmem, ?_, fun hs => ?_⟩⟩
    all_goals rw [hrow, State.deliver_eq hne hfit]
    · intro t ht
      obtain ⟨v, e, info, hv, rfl⟩ := htakes.rxbuf _ t ht
      exact hv
    · exact htakes.refuses _ hs

end Sys2Proof.Machine
end
